-- ==== Sys2Proof/Word.lean ====
section
/-! DEFINITION. The byte of the two links, and the numbers sent in it. The manual's quantities are unsigned integers of
exact arithmetic (spec/00_scope.md, Quantities), so they are `Nat` everywhere else; only what goes over a link is a bit
vector. -/

namespace Sys2Proof

/-- One byte of a trunk frame or of a plant-link frame. -/
abbrev Byte := BitVec 8

/-- The low eight bits of a number, as the byte that carries it. -/
def byte (n : Nat) : Byte := BitVec.ofNat 8 n

end Sys2Proof
end

