-- ==== Sys2Proof/Syntax.lean ====
section
/-! DEFINITION. The commands of the LC-42, one constructor per row of spec/opcode_table.json. A command is an operation or
an event that reaches the module from outside or from its own timers (spec/95_what_each_step_holds.md). The operands of a
request are the fields of its frame, as numbers, in the order of R183's table; the port and the tag stand before them. -/

namespace Sys2Proof

/-- A logical station, L0 to L119 (R1). -/
abbrev Station := Fin 120

/-- An entry of a trunk's schedule, 0 to 95 (R103). -/
abbrev EntryIndex := Fin 96

/-- A master port, P0 to P3. -/
abbrev PortId := Fin 4

/-- The two field trunks. -/
inductive TrunkId where
  | a
  | b
  deriving DecidableEq, Repr

/-- The profile to which a port is strapped (R145). -/
inductive Profile where
  | plant
  | operator
  deriving DecidableEq, Repr

/-- The commands. Every number is an operand as a frame carries it: a one-byte field is below 256 and a two-byte field
below 65536 (`Instr.wellFormed`). -/
inductive Instr where
  /-- FULL_RESET (R178): power-up, or the release of the RESET input, with the four profile straps as they are found. -/
  | fullReset (strap0 strap1 strap2 strap3 : Profile)
  /-- REQUEST_DISCARDED (R146): the frame that has just ended on the port fails its judgement. -/
  | requestDiscarded (port : PortId)
  /-- UNKNOWN_REQUEST (R150): a frame with an unknown request code is taken. -/
  | unknownRequest (port : PortId) (tag code : Nat)
  /-- RESPONSE_COMPLETE (R147): the last byte of the port's response has been sent. -/
  | responseComplete (port : PortId)
  /-- HELLO (R162). -/
  | hello (port : PortId) (tag : Nat)
  /-- REFRESH (R164). -/
  | refresh (port : PortId) (tag : Nat)
  /-- SET_WINDOW (R165). -/
  | setWindow (port : PortId) (tag seconds : Nat)
  /-- STATUS (R154). -/
  | status (port : PortId) (tag : Nat)
  /-- ACK (R174). -/
  | ack (port : PortId) (tag flagSet : Nat)
  /-- SET_MASK (R173). -/
  | setMask (port : PortId) (tag flagSet : Nat)
  /-- SET_NOTIFY (R159). -/
  | setNotify (port : PortId) (tag mode : Nat)
  /-- READ_DISPATCH (R62). -/
  | readDispatch (port : PortId) (tag selector : Nat)
  /-- READ_IMAGE (R156). -/
  | readImage (port : PortId) (tag first count step : Nat)
  /-- READ_STATION (R155). -/
  | readStation (port : PortId) (tag index : Nat)
  /-- READ_QUEUE (R133). -/
  | readQueue (port : PortId) (tag trunk : Nat)
  /-- READ_CANDIDATES (R143). -/
  | readCandidates (port : PortId) (tag : Nat)
  /-- READ_OUTCOMES (R158). -/
  | readOutcomes (port : PortId) (tag : Nat)
  /-- READ_PARAM (R152). -/
  | readParam (port : PortId) (tag identifier : Nat)
  /-- FALLBACK_CLEAR (R51). -/
  | fallbackClear (port : PortId) (tag : Nat)
  /-- POST_OFFER (R43). -/
  | postOffer (port : PortId) (tag mode f cmin cmax rank ramp discharge charge : Nat)
  /-- WITHDRAW_OFFER (R44). -/
  | withdrawOffer (port : PortId) (tag : Nat)
  /-- WRITE_MAP (R2). -/
  | writeMap (port : PortId) (tag index mapFlags trunk address qc dpmin customerTag : Nat)
  /-- WRITE_SLOT (R105). -/
  | writeSlot (port : PortId) (tag trunk entry rule index length : Nat)
  /-- WRITE_PARAM (R152). -/
  | writeParam (port : PortId) (tag identifier value : Nat)
  /-- SAVE (R176). -/
  | save (port : PortId) (tag : Nat)
  /-- SAVE_COMPLETE (R176): the save in progress finishes. -/
  | saveComplete
  /-- TRUNK_START (R92). -/
  | trunkStart (port : PortId) (tag trunk : Nat)
  /-- TRUNK_STOP (R93). -/
  | trunkStop (port : PortId) (tag trunk : Nat)
  /-- TRUNK_RESUME (R95). -/
  | trunkResume (port : PortId) (tag trunk : Nat)
  /-- RESTART (R179). -/
  | restart (port : PortId) (tag : Nat)
  /-- OVERRIDE (R77). -/
  | override (port : PortId) (tag index item value : Nat)
  /-- RELEASE (R81). -/
  | release (port : PortId) (tag index : Nat)
  /-- CANCEL (R130). -/
  | cancel (port : PortId) (tag index item : Nat)
  /-- ADMIT (R140). -/
  | admitCandidate (port : PortId) (tag trunk address index twin qc : Nat)
  /-- REJECT (R141). -/
  | reject (port : PortId) (tag trunk address : Nat)
  /-- FORGET (R142). -/
  | forget (port : PortId) (tag trunk address : Nat)
  /-- LONG_WINDOW_EXPIRY (R163). -/
  | longWindowExpiry (port : PortId)
  /-- REFRESH_WINDOW_EXPIRY (R164). -/
  | refreshWindowExpiry (port : PortId)
  /-- DISPATCH_EXPIRY (R47). -/
  | dispatchExpiry
  /-- LIMITER_EXPIRY (R65). -/
  | limiterExpiry
  /-- STALE_AGE_EXPIRY (R12). -/
  | staleAgeExpiry (station : Station)
  /-- HOLD_LIMIT_EXPIRY (R13). -/
  | holdLimitExpiry (station : Station)
  /-- SLOT_START (R107). -/
  | slotStart (trunk : TrunkId)
  /-- REQUEST_SENT (R113): the last byte of the trunk's request has been sent and read back. -/
  | requestSent (trunk : TrunkId)
  /-- REPLY_TIMEOUT (R87). -/
  | replyTimeout (trunk : TrunkId)
  /-- REPLY_CLOSED (R87). -/
  | replyClosed (trunk : TrunkId)
  /-- PAIR_EXCHANGE_END (R88). -/
  | pairExchangeEnd (trunk : TrunkId)
  /-- ROLLCALL_END (R89). -/
  | rollcallEnd (trunk : TrunkId)
  /-- WITHHELD_EXCHANGE_END (R99). -/
  | withheldExchangeEnd (trunk : TrunkId)
  /-- TX_STUCK (R96): the module's driver has been dominant for more than 30 bit-times. -/
  | txStuck (trunk : TrunkId)
  /-- ECHO_LOST (R97): a byte sent is not read back, or is read back different or wrongly framed. -/
  | echoLost (trunk : TrunkId)
  /-- LINE_HELD_SET (R98): the line has been dominant for more than 40 bit-times. -/
  | lineHeldSet (trunk : TrunkId)
  /-- LINE_HELD_CLEARED (R98): the line has been recessive for 16 bit-times. -/
  | lineHeldCleared (trunk : TrunkId)
  /-- RESET_ASSERTED_OR_SUPPLY_LOST (R178). -/
  | resetAsserted
  /-- PORT_BYTE_RECEIVED (R146): a byte whose start bit begins now. A byte with a framing error is kept as a byte. -/
  | portByteReceived (port : PortId) (value : Byte)
  /-- TRUNK_BYTE_RECEIVED (R85): a byte whose start bit begins now, and whether its stop bit is recessive. -/
  | trunkByteReceived (trunk : TrunkId) (value : Byte) (stopBitGood : Bool)
  deriving DecidableEq, Repr

end Sys2Proof
end

