-- ==== Sys2Proof/Machine/Encoding.lean ====
section
/-! DEFINITION. The encodings both links share (R181): byte order, absent values, the two checks; and the request codes with
the payload lengths they call for (R183). -/

namespace Sys2Proof.Machine

/-- A two-byte field, most significant byte first. -/
def be2 (n : Nat) : List Byte := [byte (n / 256), byte n]

/-- A four-byte field, most significant byte first. -/
def be4 (n : Nat) : List Byte := [byte (n / 16777216), byte (n / 65536), byte (n / 256), byte n]

/-- A signed four-byte field: two's complement. -/
def be4Signed (i : Int) : List Byte := be4 (BitVec.ofInt 32 i).toNat

/-- A mark: one byte, 1 where set and 0 where clear. -/
def markByte (b : Bool) : Byte := if b then 1 else 0

/-- NONE is 255 in a one-byte field. -/
def optByte : Option Nat → Byte
  | some n => byte n
  | none => 255

/-- NONE is 65535 in a two-byte field. -/
def opt2 : Option Nat → List Byte
  | some n => be2 n
  | none => be2 65535

/-- An optional four-byte field: a presence byte, then the field, which holds 4294967295 where it is absent. -/
def opt4 : Option Nat → List Byte
  | some n => markByte true :: be4 n
  | none => markByte false :: be4 4294967295

/-- The number that two bytes carry, the more significant first. -/
def number2 (hi lo : Byte) : Nat := hi.toNat * 256 + lo.toNat

/-- A two-byte number as an optional quantity: 65535 is NONE. -/
def absentAt65535 (n : Nat) : Option Nat := if n = 65535 then none else some n

/-- `k` shifts of an 8-bit CRC register towards its top, with the polynomial 0x31 at each 1 shifted out. -/
def crc8Shifts : Nat → BitVec 8 → BitVec 8
  | 0, r => r
  | k + 1, r => crc8Shifts k (if r.msb then (r <<< 1) ^^^ 0x31#8 else r <<< 1)

/-- The CRC-8 of the trunk frames. -/
def crc8 (bytes : List Byte) : Byte :=
  bytes.foldl (fun r b => crc8Shifts 8 (r ^^^ b)) 0xFF#8

/-- `k` shifts of a 16-bit CRC register towards its top, with the polynomial 0x1021 at each 1 shifted out. -/
def crc16Shifts : Nat → BitVec 16 → BitVec 16
  | 0, r => r
  | k + 1, r => crc16Shifts k (if r.msb then (r <<< 1) ^^^ 0x1021#16 else r <<< 1)

/-- A byte in the upper eight bits of sixteen. -/
def upper (b : Byte) : BitVec 16 := b ++ 0#8

/-- The CRC-16 of the plant link: each byte is XORed into the upper eight bits. -/
def crc16 (bytes : List Byte) : BitVec 16 :=
  bytes.foldl (fun r b => crc16Shifts 8 (r ^^^ upper b)) 0xFFFF#16

/-- The two check bytes of a plant-link frame. -/
def crc16Bytes (bytes : List Byte) : List Byte := be2 (crc16 bytes).toNat

/-- The payload length that a request code calls for; none for a code the module does not know (R183). -/
def requestLength : Nat → Option Nat
  | 0x01 => some 0
  | 0x02 => some 0
  | 0x03 => some 1
  | 0x04 => some 0
  | 0x05 => some 2
  | 0x06 => some 2
  | 0x07 => some 1
  | 0x10 => some 1
  | 0x11 => some 3
  | 0x12 => some 1
  | 0x13 => some 1
  | 0x14 => some 0
  | 0x15 => some 0
  | 0x16 => some 1
  | 0x17 => some 0
  | 0x20 => some 14
  | 0x21 => some 0
  | 0x30 => some 10
  | 0x31 => some 6
  | 0x32 => some 3
  | 0x33 => some 0
  | 0x34 => some 1
  | 0x35 => some 1
  | 0x36 => some 1
  | 0x37 => some 0
  | 0x40 => some 4
  | 0x41 => some 1
  | 0x42 => some 2
  | 0x43 => some 6
  | 0x44 => some 2
  | 0x45 => some 2
  | _ => none

end Sys2Proof.Machine
end

