-- ==== Sys2Proof/Machine/Types.lean ====
section
/-! DEFINITION. The kinds of thing the module holds: the names of its states and modes, and the records of its blocks. -/

namespace Sys2Proof.Machine

/-! ## Station Table (chapter 1) -/

/-- The states of a station entry (section 1.3). -/
inductive StationState where
  | unbound
  | waiting
  | live
  | stale
  | lost
  deriving DecidableEq, Repr

/-- A station status: the set of conditions of R182's status byte, bit 0 LOCAL, 1 VALVE_SAT, 2 SENSOR_FAULT, 3 CAP_ACTIVE,
4 ATTENTION. Bits 5 to 7 of the byte are not stored. -/
abbrev StatusSet := BitVec 5

/-- The map part of a Station Table entry (R1). -/
structure MapPart where
  enabled     : Bool
  trunk       : TrunkId
  address     : Nat
  twin        : Bool
  qc          : Nat
  index       : Bool
  dpmin       : Nat
  exempt      : Bool
  customerTag : Nat
  deriving DecidableEq, Repr

/-- A reading (R5), with the time of last good reading (R4), in ticks of the clock. The two are present together. -/
structure Reading where
  q       : Nat
  ts      : Nat
  tr      : Nat
  v       : Nat
  dp      : Option Nat
  clamped : Bool
  goodAt  : Nat
  deriving DecidableEq, Repr

/-- What a command asks of a station (R86, R119). -/
inductive Item where
  | cap
  | hold
  | poll
  deriving DecidableEq, Repr

/-- The delivery state of an override (R22). -/
inductive Delivery where
  | pending
  | applied
  | refused
  deriving DecidableEq, Repr

/-- An operator override (R22). A value of none is NONE. -/
structure Override where
  owner    : PortId
  item     : Item
  value    : Option Nat
  delivery : Delivery
  deriving DecidableEq, Repr

/-- The image part of a Station Table entry (R4). -/
structure Image where
  state      : StationState
  generation : Nat
  misses     : Nat
  reading    : Option Reading
  status     : Option StatusSet
  clash      : Bool
  override   : Option Override
  deriving DecidableEq, Repr

/-! ## Dispatch Unit (chapter 3) -/

/-- The network mode (R47). -/
inductive NetMode where
  | starting
  | run
  | fallback
  deriving DecidableEq, Repr

/-- The mode of an offer (section 3.1). -/
inductive OfferMode where
  | off
  | fixed
  | follow
  | store
  deriving DecidableEq, Repr

/-- An offer, with the fields of its mode (R42). -/
inductive Offer where
  | off
  | fixed (f cmin cmax : Nat)
  | follow (cmin cmax rank ramp : Nat)
  | store (rank discharge charge : Nat)
  deriving DecidableEq, Repr

/-- The status of a dispatch record (R58, R50). -/
inductive RecordStatus where
  | balanced
  | short
  | surplus
  | fallback
  deriving DecidableEq, Repr

/-- An entry of a record's share list (R60). -/
structure ShareEntry where
  port   : PortId
  mode   : OfferMode
  share  : Int
  flow   : Nat
  ramped : Bool
  deriving DecidableEq, Repr

/-- A dispatch record (R60). The time is in seconds. -/
structure Record where
  sequence   : Nat
  time       : Nat
  mode       : NetMode
  status     : RecordStatus
  demand     : Nat
  adjusted   : Nat
  flow       : Nat
  setpoint   : Nat
  unmet      : Int
  incomplete : Bool
  dpBlind    : Bool
  live       : Nat
  stale      : Nat
  excluded   : Nat
  shares     : List ShareEntry
  deriving DecidableEq, Repr

/-! ## Low-ΔT Limiter (chapter 4) -/

/-- The state of a limiter entry with its cap value (R64). In PENDING and BLOCKED a cap of none is NONE, a release. -/
inductive LimitState where
  | none
  | pending (cap : Option Nat)
  | active (cap : Nat)
  | blocked (cap : Option Nat)
  deriving DecidableEq, Repr

/-- A limiter entry (R64). -/
structure LimitEntry where
  state    : LimitState
  recovery : Nat
  deriving DecidableEq, Repr

/-! ## Command Queues (chapter 7) -/

/-- Who placed a command entry, and who receives its outcome (R119). -/
inductive Originator where
  | port (p : PortId)
  | limiter
  | module
  deriving DecidableEq, Repr

/-- How a command entry ends. -/
inductive CommandEnd where
  | done
  | refused
  | noReply
  | dropped
  deriving DecidableEq, Repr

/-- The stamp of a command entry, taken when its first frame is sent (R119, R123). -/
structure CommandStamp where
  index      : Station
  generation : Nat
  address    : Nat
  deriving DecidableEq, Repr

/-- A command entry (R119). The in-flight mark is set exactly while the stamp is present. -/
structure CommandEntry where
  index           : Station
  item            : Item
  value           : Option Nat
  originator      : Originator
  attempts        : Nat
  stamp           : Option CommandStamp
  evenDone        : Bool
  evenStatus      : Option StatusSet
  releaseReported : Bool
  deriving DecidableEq, Repr

/-- An entry of a port's outcome list (R158). The time is in ticks. -/
structure OutcomeEntry where
  index   : Station
  item    : Item
  value   : Option Nat
  outcome : CommandEnd
  at_     : Nat
  deriving DecidableEq, Repr

/-! ## Trunk Interface and Sweep Scheduler (chapters 5 and 6) -/

/-- The state of a trunk (section 5.4). -/
inductive TrunkState where
  | stopped
  | running
  | stopping
  | halted
  deriving DecidableEq, Repr

/-- The fault that halted a trunk (R83). -/
inductive FaultKind where
  | txStuck
  | echoLost
  | check
  deriving DecidableEq, Repr

/-- The kind of a request frame (R83, R86). -/
inductive FrameKind where
  | scan
  | pair
  | command
  | rollcall
  deriving DecidableEq, Repr

/-- The fault record of a trunk (R83). The time is in ticks. -/
structure FaultRecord where
  kind  : FaultKind
  at_   : Nat
  entry : Option EntryIndex
  frame : Option FrameKind
  deriving DecidableEq, Repr

/-- The rule of a schedule entry, with its logical index where it holds one (R104). -/
inductive SlotRule where
  | scan (l : Station)
  | twinHead (l : Station)
  | twinTail
  | cmdOrScan (l : Station)
  | cmdOrQuiet
  | rollcall
  | quiet
  deriving DecidableEq, Repr

/-- A schedule entry (R104). -/
structure SlotEntry where
  rule   : SlotRule
  length : Nat
  deriving DecidableEq, Repr

/-- A schedule: 96 entries (R103). -/
abbrev Schedule := Vector SlotEntry 96

/-- The stamp of a scan or pair exchange (R7). -/
structure Stamp where
  index      : Station
  generation : Nat
  deriving DecidableEq, Repr

/-- What an exchange is (R86, R111, R114). -/
inductive ExchangeKind where
  /-- A SCAN of a single station. -/
  | scan (stamp : Stamp)
  /-- The SCAN of a twin's even half alone, sent by a TWIN_HEAD without its tail (R111). -/
  | headScan (stamp : Stamp)
  /-- A PAIR exchange. -/
  | pair (stamp : Stamp)
  /-- A command exchange; its stamp stands in the queue's entry in flight. -/
  | command (item : Item)
  /-- A roll-call. -/
  | rollcall
  deriving DecidableEq, Repr

/-- A byte heard on a trunk: when its start bit began, its value, and whether its stop bit was recessive (R85). -/
structure HeardByte where
  start  : Nat
  value  : Byte
  stopOk : Bool
  deriving DecidableEq, Repr

/-- The exchange in flight on a trunk (R87 to R89, R99). -/
structure Exchange where
  kind      : ExchangeKind
  /-- The station address asked; for a pair the even address. -/
  address   : Nat
  /-- The request put on the line. -/
  request   : List Byte
  /-- The exchange is withheld because the line was held when its slot began (R99). -/
  withheld  : Bool
  startAt   : Nat
  /-- The end of the request, once its last byte has been read back (R85, R91). -/
  sentAt    : Option Nat
  /-- The bytes heard since the end of the request, oldest first. -/
  heard     : List HeardByte
  /-- The line-held mark has been set during the exchange (R99). -/
  disturbed : Bool
  deriving DecidableEq, Repr

/-- The slot in progress on a trunk (R107, R108). For a pair slot the entry is the TWIN_HEAD's (R83, R110). -/
structure Slot where
  entry   : EntryIndex
  startAt : Nat
  /-- Its length, in bit-times. -/
  length  : Nat
  deriving DecidableEq, Repr

/-- A trunk: its interface (R83), its scheduler (R103) less the schedule, and its command queue (R119). -/
structure Trunk where
  state         : TrunkState
  txEnabled     : Bool
  /-- The running bit rate. -/
  rate          : Nat
  fault         : Option FaultRecord
  lineHeld      : Bool
  pointer       : Option EntryIndex
  sweeps        : Nat
  /-- The last-frame-was-command mark. -/
  commandMark   : Bool
  lastMismatch  : Option EntryIndex
  sweepMismatch : Bool
  slot          : Option Slot
  exchange      : Option Exchange
  queue         : List CommandEntry
  deriving DecidableEq, Repr

/-! ## Admission List (chapter 8) -/

/-- A candidate (R136). The time first seen is in ticks. -/
structure Candidate where
  trunk     : TrunkId
  address   : Nat
  firstSeen : Nat
  seen      : Nat
  absences  : Nat
  clash     : Bool
  deriving DecidableEq, Repr

/-- A roll-call answer (R89). -/
inductive Answer where
  | absent
  | present
  | presentAttention
  | clash
  deriving DecidableEq, Repr

/-! ## Ports (chapters 9 to 11) -/

/-- The state of a port (R161). -/
inductive PortState where
  | closed
  | opening
  | live
  | lapsed
  | shut
  deriving DecidableEq, Repr

/-- The notify mode of a port (R159). -/
inductive NotifyMode where
  | each
  | drained
  deriving DecidableEq, Repr

/-- A set of attention flags, in the places of R183: DISPATCH bit 0, CMD 1, STATION 2, TRUNK 3, CANDIDATE 4, WATCHDOG 5,
FALLBACK 6, SAVE 7, RESTART 8. -/
abbrev FlagSet := BitVec 9

/-- The kind of a running window (R161). -/
inductive WindowKind where
  | long
  | refresh
  deriving DecidableEq, Repr

/-- A running window; its start and its length in milliseconds (R161). -/
structure Window where
  kind     : WindowKind
  startMs  : Nat
  lengthMs : Nat
  deriving DecidableEq, Repr

/-- A response code (R150, R183). -/
inductive ResponseCode where
  | ok
  | busy
  | denied
  | notLive
  | badIndex
  | inUse
  | duplicate
  | held
  | qfull
  | fallback
  | notReady
  | shut
  | empty
  | inFlight
  | unknown
  | none
  deriving DecidableEq, Repr

/-- A response (R148): the tag and request code it answers, its response code and its payload. -/
structure Response where
  tag     : Nat
  request : Nat
  code    : ResponseCode
  payload : List Byte
  deriving DecidableEq, Repr

/-- The response a port is sending: when its last byte will have been sent, and whether it is the OK of a RESTART, whose
network reset follows it (R148, R179). -/
structure Sending where
  response : Response
  endAt    : Nat
  restarts : Bool
  deriving DecidableEq, Repr

/-- A frame received on a port, with the end of its last byte, in ticks (R146). -/
structure PortFrame where
  bytes : List Byte
  endAt : Nat
  deriving DecidableEq, Repr

/-- A port: its controller (R145, R172) and its supervisor's record (R161). -/
structure Port where
  profile   : Profile
  /-- Frames received and not yet judged, oldest first; the receive state is IDLE while there is none. -/
  receiving : List PortFrame
  /-- The answer state: FREE where none, ANSWERING while a response is being sent. -/
  sending   : Option Sending
  /-- The owed BUSY: the tag and request code of a request turned away. -/
  owedBusy  : Option (Nat × Nat)
  notify    : NotifyMode
  outcomes  : List OutcomeEntry
  overrun   : Bool
  flags     : FlagSet
  mask      : FlagSet
  state     : PortState
  /-- The window length W, in seconds. -/
  windowLen : Nat
  window    : Option Window
  failures  : Nat
  deriving DecidableEq, Repr

/-! ## Settings (chapter 11) -/

/-- The parameters (section 11.3). -/
structure Params where
  dispatchPeriod : Nat
  limiterPeriod  : Nat
  staleAge       : Nat
  holdLimit      : Nat
  faultMisses    : Nat
  loss           : Nat
  sStart         : Nat
  sMin           : Nat
  sMax           : Nat
  stepUp         : Nat
  stepDown       : Nat
  deadband       : Nat
  dTmin          : Nat
  hysteresis     : Nat
  capfloor       : Nat
  capstep        : Nat
  rateA          : Nat
  rateB          : Nat
  haltOnCheckA   : Bool
  haltOnCheckB   : Bool
  autostart      : Bool
  deriving DecidableEq, Repr

/-- The settings: map, schedules and parameters (R175). -/
structure Settings where
  maps   : Vector MapPart 120
  schedA : Schedule
  schedB : Schedule
  params : Params
  deriving DecidableEq, Repr

/-- A save in progress: the settings captured and the moment it was taken (R176). -/
structure Saving where
  captured : Settings
  takenAt  : Nat
  deriving DecidableEq, Repr

end Sys2Proof.Machine
end

