-- ==== Sys2Proof/Config.lean ====
section
/-! DEFINITION. What is fixed for the machine, and what the manual leaves open. The constants without a body are the model's
free values: nothing in Lean can evaluate them, so whatever is proved holds whichever value they have. -/

namespace Sys2Proof.Config

open Sys2Proof.Machine

/-- Which of several events that fall together is taken first: the manual allows every order ("the result depends on
which is taken first": R12, R25, R43, R122 and others). The argument counts the choices made since the machine's first
moment. Assumption 2. -/
opaque tieBreak : Nat → Nat

/-- How long a save takes, in ticks of the model's clock, before it is cut to R176's "at most 400 ms". The argument is
the moment at which the save was taken. Assumption 3. -/
opaque saveDelay : Nat → Nat

/-- The bytes of the settings in the non-volatile copy, over which its check runs (R175): the manual gives the check and no
layout of what it covers. Assumption 14. -/
opaque copyBytes : Settings → List Byte

/-- How long the read-back of a request's last byte takes after the end of its stop bit, in ticks, before it is brought within
R97's "within 2 bit-times". The arguments are the trunk and the tick at which the stop bit ends. Assumption 33. -/
opaque readBack : TrunkId → Nat → Nat

end Sys2Proof.Config
end

