-- ==== Sys2Proof/WellFormed.lean ====
section
/-! DEFINITION. Which commands are well formed: every operand is a number its field of the frame can carry (R181, R183),
and a request called unknown carries a code that R183's table does not give. Nothing the machine does needs it: `exec` is
total. It is what the reading and writing of request frames is stated over. -/

namespace Sys2Proof

/-- The numbers a one-byte field carries. -/
abbrev fits8 (n : Nat) : Bool := n < 256

/-- The numbers a two-byte field carries. -/
abbrev fits16 (n : Nat) : Bool := n < 65536

/-- Every operand of the command fits its field. -/
def Instr.wellFormed : Instr → Bool
  | .unknownRequest _ tag code => fits8 tag && fits8 code && (Machine.requestLength code).isNone
  | .hello _ tag => fits8 tag
  | .refresh _ tag => fits8 tag
  | .setWindow _ tag seconds => fits8 tag && fits8 seconds
  | .status _ tag => fits8 tag
  | .ack _ tag flagSet => fits8 tag && fits16 flagSet
  | .setMask _ tag flagSet => fits8 tag && fits16 flagSet
  | .setNotify _ tag mode => fits8 tag && fits8 mode
  | .readDispatch _ tag selector => fits8 tag && fits8 selector
  | .readImage _ tag first count step => fits8 tag && fits8 first && fits8 count && fits8 step
  | .readStation _ tag index => fits8 tag && fits8 index
  | .readQueue _ tag trunk => fits8 tag && fits8 trunk
  | .readCandidates _ tag => fits8 tag
  | .readOutcomes _ tag => fits8 tag
  | .readParam _ tag identifier => fits8 tag && fits8 identifier
  | .fallbackClear _ tag => fits8 tag
  | .postOffer _ tag mode f cmin cmax rank ramp discharge charge =>
      fits8 tag && fits8 mode && fits16 f && fits16 cmin && fits16 cmax && fits8 rank && fits16 ramp && fits16 discharge
        && fits16 charge
  | .withdrawOffer _ tag => fits8 tag
  | .writeMap _ tag index mapFlags trunk address qc dpmin customerTag =>
      fits8 tag && fits8 index && fits8 mapFlags && fits8 trunk && fits8 address && fits16 qc && fits16 dpmin
        && fits16 customerTag
  | .writeSlot _ tag trunk entry rule index length =>
      fits8 tag && fits8 trunk && fits8 entry && fits8 rule && fits8 index && fits16 length
  | .writeParam _ tag identifier value => fits8 tag && fits8 identifier && fits16 value
  | .save _ tag => fits8 tag
  | .trunkStart _ tag trunk => fits8 tag && fits8 trunk
  | .trunkStop _ tag trunk => fits8 tag && fits8 trunk
  | .trunkResume _ tag trunk => fits8 tag && fits8 trunk
  | .restart _ tag => fits8 tag
  | .override _ tag index item value => fits8 tag && fits8 index && fits8 item && fits16 value
  | .release _ tag index => fits8 tag && fits8 index
  | .cancel _ tag index item => fits8 tag && fits8 index && fits8 item
  | .admitCandidate _ tag trunk address index twin qc =>
      fits8 tag && fits8 trunk && fits8 address && fits8 index && fits8 twin && fits16 qc
  | .reject _ tag trunk address => fits8 tag && fits8 trunk && fits8 address
  | .forget _ tag trunk address => fits8 tag && fits8 trunk && fits8 address
  | .fullReset _ _ _ _ => true
  | .requestDiscarded _ => true
  | .responseComplete _ => true
  | .saveComplete => true
  | .longWindowExpiry _ => true
  | .refreshWindowExpiry _ => true
  | .dispatchExpiry => true
  | .limiterExpiry => true
  | .staleAgeExpiry _ => true
  | .holdLimitExpiry _ => true
  | .slotStart _ => true
  | .requestSent _ => true
  | .replyTimeout _ => true
  | .replyClosed _ => true
  | .pairExchangeEnd _ => true
  | .rollcallEnd _ => true
  | .withheldExchangeEnd _ => true
  | .txStuck _ => true
  | .echoLost _ => true
  | .lineHeldSet _ => true
  | .lineHeldCleared _ => true
  | .resetAsserted => true
  | .portByteReceived _ _ => true
  | .trunkByteReceived _ _ _ => true

end Sys2Proof
end

