-- ==== Sys2Proof/Decode.lean ====
section
/-! DEFINITION. Reading a command from bits. The rows of spec/opcode_table.json give no bits, so `decodeTableWord` spells
none. What the manual does encode are the request frames of the plant link (R146, R183): `judgeFrame` is the judgement of a
frame that has ended on a port, and `encodeRequest` is the frame of a request. -/

namespace Sys2Proof

/-- The command a word spells by the table's bits: no row of spec/opcode_table.json gives any (98_reader.md counts 0 rows
with fixed bits), so no word spells a command. -/
def decodeTableWord (_nbits _w : Nat) : Option Instr := none

/-- The request that a code and its payload spell, by R183's table; none where the code is unknown, or the payload has not
the length the code calls for. -/
def decodePayload (port : PortId) (tag code : Nat) (payload : List Byte) : Option Instr :=
  match code, payload with
  | 0x01, [] => some (.hello port tag)
  | 0x02, [] => some (.refresh port tag)
  | 0x03, [s] => some (.setWindow port tag s.toNat)
  | 0x04, [] => some (.status port tag)
  | 0x05, [h, l] => some (.ack port tag (Machine.number2 h l))
  | 0x06, [h, l] => some (.setMask port tag (Machine.number2 h l))
  | 0x07, [m] => some (.setNotify port tag m.toNat)
  | 0x10, [x] => some (.readDispatch port tag x.toNat)
  | 0x11, [f, c, s] => some (.readImage port tag f.toNat c.toNat s.toNat)
  | 0x12, [i] => some (.readStation port tag i.toNat)
  | 0x13, [t] => some (.readQueue port tag t.toNat)
  | 0x14, [] => some (.readCandidates port tag)
  | 0x15, [] => some (.readOutcomes port tag)
  | 0x16, [i] => some (.readParam port tag i.toNat)
  | 0x17, [] => some (.fallbackClear port tag)
  | 0x20, [m, f1, f0, n1, n0, x1, x0, r, p1, p0, d1, d0, c1, c0] =>
      some (.postOffer port tag m.toNat (Machine.number2 f1 f0) (Machine.number2 n1 n0) (Machine.number2 x1 x0) r.toNat
        (Machine.number2 p1 p0) (Machine.number2 d1 d0) (Machine.number2 c1 c0))
  | 0x21, [] => some (.withdrawOffer port tag)
  | 0x30, [i, f, t, a, q1, q0, d1, d0, g1, g0] =>
      some (.writeMap port tag i.toNat f.toNat t.toNat a.toNat (Machine.number2 q1 q0) (Machine.number2 d1 d0)
        (Machine.number2 g1 g0))
  | 0x31, [t, e, r, i, l1, l0] =>
      some (.writeSlot port tag t.toNat e.toNat r.toNat i.toNat (Machine.number2 l1 l0))
  | 0x32, [i, v1, v0] => some (.writeParam port tag i.toNat (Machine.number2 v1 v0))
  | 0x33, [] => some (.save port tag)
  | 0x34, [t] => some (.trunkStart port tag t.toNat)
  | 0x35, [t] => some (.trunkStop port tag t.toNat)
  | 0x36, [t] => some (.trunkResume port tag t.toNat)
  | 0x37, [] => some (.restart port tag)
  | 0x40, [i, m, v1, v0] => some (.override port tag i.toNat m.toNat (Machine.number2 v1 v0))
  | 0x41, [i] => some (.release port tag i.toNat)
  | 0x42, [i, m] => some (.cancel port tag i.toNat m.toNat)
  | 0x43, [t, a, i, w, q1, q0] =>
      some (.admitCandidate port tag t.toNat a.toNat i.toNat w.toNat (Machine.number2 q1 q0))
  | 0x44, [t, a] => some (.reject port tag t.toNat a.toNat)
  | 0x45, [t, a] => some (.forget port tag t.toNat a.toNat)
  | _, _ => none

/-- The judgement of a frame that has ended on a port (R146): the sync bytes, the length, the CRC-16, and for a known code
the payload's length, in that order. A frame that passes is a request, known or unknown; any other is discarded. -/
def judgeFrame (port : PortId) (frame : List Byte) : Instr :=
  match frame with
  | s0 :: s1 :: length :: tag :: code :: rest =>
    if s0 = 0x5A#8 ∧ s1 = 0xC3#8 ∧ length.toNat = frame.length ∧ 2 ≤ rest.length then
      let payload := rest.take (rest.length - 2)
      if rest.drop (rest.length - 2) = Machine.crc16Bytes (length :: tag :: code :: payload) then
        if (Machine.requestLength code.toNat).isSome then
          (decodePayload port tag.toNat code.toNat payload).getD (.requestDiscarded port)
        else .unknownRequest port tag.toNat code.toNat
      else .requestDiscarded port
    else .requestDiscarded port
  | _ => .requestDiscarded port

/-- A request's tag, code and payload (R183); none for a command that is no request of the table. -/
def requestFields : Instr → Option (Nat × Nat × List Byte)
  | .hello _ tag => some (tag, 0x01, [])
  | .refresh _ tag => some (tag, 0x02, [])
  | .setWindow _ tag seconds => some (tag, 0x03, [byte seconds])
  | .status _ tag => some (tag, 0x04, [])
  | .ack _ tag flagSet => some (tag, 0x05, Machine.be2 flagSet)
  | .setMask _ tag flagSet => some (tag, 0x06, Machine.be2 flagSet)
  | .setNotify _ tag mode => some (tag, 0x07, [byte mode])
  | .readDispatch _ tag selector => some (tag, 0x10, [byte selector])
  | .readImage _ tag first count step => some (tag, 0x11, [byte first, byte count, byte step])
  | .readStation _ tag index => some (tag, 0x12, [byte index])
  | .readQueue _ tag trunk => some (tag, 0x13, [byte trunk])
  | .readCandidates _ tag => some (tag, 0x14, [])
  | .readOutcomes _ tag => some (tag, 0x15, [])
  | .readParam _ tag identifier => some (tag, 0x16, [byte identifier])
  | .fallbackClear _ tag => some (tag, 0x17, [])
  | .postOffer _ tag mode f cmin cmax rank ramp discharge charge =>
      some (tag, 0x20, byte mode :: Machine.be2 f ++ Machine.be2 cmin ++ Machine.be2 cmax ++ byte rank :: Machine.be2 ramp
        ++ Machine.be2 discharge ++ Machine.be2 charge)
  | .withdrawOffer _ tag => some (tag, 0x21, [])
  | .writeMap _ tag index mapFlags trunk address qc dpmin customerTag =>
      some (tag, 0x30, [byte index, byte mapFlags, byte trunk, byte address] ++ Machine.be2 qc ++ Machine.be2 dpmin
        ++ Machine.be2 customerTag)
  | .writeSlot _ tag trunk entry rule index length =>
      some (tag, 0x31, [byte trunk, byte entry, byte rule, byte index] ++ Machine.be2 length)
  | .writeParam _ tag identifier value => some (tag, 0x32, byte identifier :: Machine.be2 value)
  | .save _ tag => some (tag, 0x33, [])
  | .trunkStart _ tag trunk => some (tag, 0x34, [byte trunk])
  | .trunkStop _ tag trunk => some (tag, 0x35, [byte trunk])
  | .trunkResume _ tag trunk => some (tag, 0x36, [byte trunk])
  | .restart _ tag => some (tag, 0x37, [])
  | .override _ tag index item value => some (tag, 0x40, [byte index, byte item] ++ Machine.be2 value)
  | .release _ tag index => some (tag, 0x41, [byte index])
  | .cancel _ tag index item => some (tag, 0x42, [byte index, byte item])
  | .admitCandidate _ tag trunk address index twin qc =>
      some (tag, 0x43, [byte trunk, byte address, byte index, byte twin] ++ Machine.be2 qc)
  | .reject _ tag trunk address => some (tag, 0x44, [byte trunk, byte address])
  | .forget _ tag trunk address => some (tag, 0x45, [byte trunk, byte address])
  | .unknownRequest _ tag code => some (tag, code, [])
  | .fullReset _ _ _ _ => none
  | .requestDiscarded _ => none
  | .responseComplete _ => none
  | .saveComplete => none
  | .longWindowExpiry _ => none
  | .refreshWindowExpiry _ => none
  | .dispatchExpiry => none
  | .limiterExpiry => none
  | .staleAgeExpiry _ => none
  | .holdLimitExpiry _ => none
  | .slotStart _ => none
  | .requestSent _ => none
  | .replyTimeout _ => none
  | .replyClosed _ => none
  | .pairExchangeEnd _ => none
  | .rollcallEnd _ => none
  | .withheldExchangeEnd _ => none
  | .txStuck _ => none
  | .echoLost _ => none
  | .lineHeldSet _ => none
  | .lineHeldCleared _ => none
  | .resetAsserted => none
  | .portByteReceived _ _ => none
  | .trunkByteReceived _ _ _ => none

/-- The port a request command stands on. -/
def requestPort : Instr → Option PortId
  | .hello p _ | .refresh p _ | .setWindow p _ _ | .status p _ | .ack p _ _ | .setMask p _ _ | .setNotify p _ _ => some p
  | .readDispatch p _ _ | .readImage p _ _ _ _ | .readStation p _ _ | .readQueue p _ _ | .readCandidates p _ => some p
  | .readOutcomes p _ | .readParam p _ _ | .fallbackClear p _ | .postOffer p _ _ _ _ _ _ _ _ _ => some p
  | .withdrawOffer p _ | .writeMap p _ _ _ _ _ _ _ _ | .writeSlot p _ _ _ _ _ _ | .writeParam p _ _ _ => some p
  | .save p _ | .trunkStart p _ _ | .trunkStop p _ _ | .trunkResume p _ _ | .restart p _ => some p
  | .override p _ _ _ _ | .release p _ _ | .cancel p _ _ _ | .admitCandidate p _ _ _ _ _ _ => some p
  | .reject p _ _ _ | .forget p _ _ _ | .unknownRequest p _ _ => some p
  | _ => none

/-- The bytes of a request frame: sync, length, tag, code, payload, CRC-16 (R183). An unknown code is sent with an empty
payload. -/
def encodeRequest (i : Instr) : Option (List Byte) :=
  (requestFields i).map fun (tag, code, payload) =>
    let body := byte (payload.length + 7) :: byte tag :: byte code :: payload
    0x5A#8 :: 0xC3#8 :: body ++ Machine.crc16Bytes body

end Sys2Proof
end

