-- ==== Sys2Proof/Machine/Defaults.lean ====
section
/-! DEFINITION. The values the manual gives outright: the clock's scale, the defaults of the settings (R177, section 11.3),
and the state of each block after a full reset. -/

namespace Sys2Proof.Machine

/-- The ticks of the model's clock in one second: the bit rate of the plant link (R145). Every bit rate of a trunk divides
it, so every bit-time, byte-time, millisecond boundary and second of the manual falls on a tick or is rounded to one as the
rule that uses it says. Assumption 1. -/
def ticksPerSecond : Nat := 115200

/-- The milliseconds that have passed after so many ticks: `ticks * 1000 / 115200`, rounded down. -/
def msOfTicks (ticks : Nat) : Nat := ticks * 5 / 576

/-- The first tick at which so many milliseconds have passed. -/
def ticksOfMs (ms : Nat) : Nat := (ms * 576 + 4) / 5

/-- The defaults of the parameters (section 11.3). -/
def Params.default : Params where
  dispatchPeriod := 5
  limiterPeriod := 30
  staleAge := 20
  holdLimit := 300
  faultMisses := 3
  loss := 30
  sStart := 2000
  sMin := 1200
  sMax := 3500
  stepUp := 50
  stepDown := 20
  deadband := 100
  dTmin := 500
  hysteresis := 50
  capfloor := 400
  capstep := 20
  rateA := 19200
  rateB := 19200
  haltOnCheckA := false
  haltOnCheckB := false
  autostart := false

/-- The default map part (R177). -/
def MapPart.default : MapPart where
  enabled := false
  trunk := .a
  address := 0
  twin := false
  qc := 0
  index := false
  dpmin := 0
  exempt := false
  customerTag := 0

/-- The default schedule entry (R177). -/
def SlotEntry.default : SlotEntry := { rule := .quiet, length := 0 }

/-- The default settings (R177). -/
def Settings.default : Settings where
  maps := Vector.replicate 120 MapPart.default
  schedA := Vector.replicate 96 SlotEntry.default
  schedB := Vector.replicate 96 SlotEntry.default
  params := Params.default

/-- The image part of an entry after full reset or RESTART, by whether the entry is enabled (R4). -/
def Image.atReset (enabled : Bool) : Image where
  state := if enabled then .waiting else .unbound
  generation := 0
  misses := 0
  reading := none
  status := none
  clash := false
  override := none

/-- A cleared limiter entry (R64, R21). -/
def LimitEntry.cleared : LimitEntry := { state := .none, recovery := 0 }

/-- A port after full reset, with the profile read from its strap (R145, R161, R172). -/
def Port.atReset (profile : Profile) : Port where
  profile := profile
  receiving := []
  sending := none
  owedBusy := none
  notify := .each
  outcomes := []
  overrun := false
  flags := 0
  mask := 0
  state := .closed
  windowLen := 10
  window := none
  failures := 0

/-- A trunk after full reset (R83, R103, R119): RUNNING where autostart brings it up. -/
def Trunk.atReset (running : Bool) (rate : Nat) : Trunk where
  state := if running then .running else .stopped
  txEnabled := true
  rate := rate
  fault := none
  lineHeld := false
  pointer := none
  sweeps := 0
  commandMark := true
  lastMismatch := none
  sweepMismatch := false
  slot := none
  exchange := none
  queue := []

end Sys2Proof.Machine
end

