-- ==== Sys2Proof/Machine/State.lean ====
section
/-! DEFINITION. The state of the LC-42, the reasons a step can stop, and the state after reset. -/

namespace Sys2Proof.Machine

/-- Everything the manual gives the module, as plain data, with the queue of commands that wait. -/
structure State where
  /-- False while the RESET input is held or the supply has not come good (R178). -/
  powered         : Bool
  /-- The module's time, in ticks of 1/115200 s since the most recent full reset (R178; assumption 1). -/
  clock           : Nat
  /-- The model's own: how many choices between events that fall together have been made (assumption 2). -/
  ties            : Nat
  /-- The working settings (R175). -/
  work            : Settings
  /-- The non-volatile copy of the settings (R175). -/
  copy            : Settings
  /-- The check stored with the copy (R175). -/
  copyCheck       : BitVec 16
  /-- The copy has been written whole: no SAVE is writing it, and none has been cut short since it was last written (R175). -/
  copyWhole       : Bool
  /-- The save in progress (R176). -/
  saving          : Option Saving
  /-- CONFIG_DEFAULTED (R177). -/
  configDefaulted : Bool
  /-- The image parts of L0 to L119 (R4). -/
  images          : Vector Image 120
  /-- The limiter entries of L0 to L119 (R64). -/
  limits          : Vector LimitEntry 120
  trunkA          : Trunk
  trunkB          : Trunk
  /-- The candidate list, oldest first (R136). -/
  candidates      : List Candidate
  /-- The overflow mark of the candidate list (R136). -/
  overflow        : Bool
  /-- The refused sets, in ascending order (R136). -/
  refusedA        : List Nat
  refusedB        : List Nat
  /-- The offer table (R42). -/
  offers          : Vector (Option Offer) 4
  /-- The current and the previous dispatch record (R61). -/
  current         : Option Record
  previous        : Option Record
  /-- The number of the current record (R61). -/
  sequence        : Nat
  /-- The DP setpoint S (R31). -/
  setpoint        : Nat
  /-- The network mode (R47). -/
  mode            : NetMode
  /-- The fallback-clear mark (R51). -/
  clearMark       : Bool
  /-- The tick of the dispatch timer's next expiry (R46). -/
  dispatchDue     : Nat
  /-- The tick of the limiter timer's next expiry (R65). -/
  limiterDue      : Nat
  ports           : Vector Port 4
  /-- The commands that wait, first in, first out. -/
  pending         : List Instr
  deriving DecidableEq, Repr

/-- Why the machine stops with a fault: never. The manual ends no command and no event of its table by stopping the module;
what it calls a fault of a trunk or a failure of a port is an effect on the state. Safe: no constructor, so no step claims a
stop that the module does not make. -/
inductive Fault
  deriving DecidableEq, Repr

/-- Why a command has no meaning. -/
inductive Refusal where
  /-- Raised by an arm of `exec` that rejects its command by name because the model gives it no meaning; no arm does. Safe:
  the machine stops where the module goes on. -/
  | notModelled (mnemonic : String)
  deriving DecidableEq, Repr

/-- The module right after a full reset that found the straps P0 to P2 PLANT and P3 OPERATOR and the stored copy invalid, as
it is when the module has never saved (R177, R178; assumption 4): the defaults are the working settings, CONFIG_DEFAULTED is
set, every entry is UNBOUND, both trunks are STOPPED, every port is CLOSED, and the two timers have just been started. -/
def State.reset : State where
  powered := true
  clock := 0
  ties := 0
  work := Settings.default
  copy := Settings.default
  copyCheck := 0
  copyWhole := false
  saving := none
  configDefaulted := true
  images := Vector.replicate 120 (Image.atReset false)
  limits := Vector.replicate 120 LimitEntry.cleared
  trunkA := Trunk.atReset false Params.default.rateA
  trunkB := Trunk.atReset false Params.default.rateB
  candidates := []
  overflow := false
  refusedA := []
  refusedB := []
  offers := Vector.replicate 4 none
  current := none
  previous := none
  sequence := 0
  setpoint := 2000
  mode := .starting
  clearMark := false
  dispatchDue := 5 * ticksPerSecond
  limiterDue := 30 * ticksPerSecond
  ports := #v[Port.atReset .plant, Port.atReset .plant, Port.atReset .plant, Port.atReset .operator]
  pending := []

end Sys2Proof.Machine
end

