-- ==== Sys2Proof/Machine/Access.lean ====
section
/-! DEFINITION. Reading and writing one piece of the state: every table, port and trunk is read and written through these. -/

namespace Sys2Proof.Machine

/-- A table filled by a function of its index. -/
def tabulate {α : Type} (n : Nat) (f : Fin n → α) : Vector α n :=
  ⟨⟨(List.finRange n).map f⟩, by simp⟩

/-- All logical stations, in ascending order. -/
def stations : List Station := List.finRange 120

/-- All ports, in ascending order. -/
def portIds : List PortId := List.finRange 4

/-- The parameters as they stand. -/
def State.params (s : State) : Params := s.work.params

def State.setParams (s : State) (x : Params) : State := { s with work := { s.work with params := x } }

def State.port (s : State) (p : PortId) : Port := s.ports.get p

def State.setPort (s : State) (p : PortId) (x : Port) : State :=
  { s with ports := s.ports.set p.val x p.isLt }

def State.modifyPort (s : State) (p : PortId) (f : Port → Port) : State := s.setPort p (f (s.port p))

/-- The same change on every port. -/
def State.eachPort (s : State) (f : Port → Port) : State :=
  { s with ports := tabulate 4 fun p => f (s.port p) }

def State.trunk (s : State) : TrunkId → Trunk
  | .a => s.trunkA
  | .b => s.trunkB

def State.setTrunk (s : State) (t : TrunkId) (x : Trunk) : State :=
  match t with
  | .a => { s with trunkA := x }
  | .b => { s with trunkB := x }

def State.modifyTrunk (s : State) (t : TrunkId) (f : Trunk → Trunk) : State := s.setTrunk t (f (s.trunk t))

/-- A trunk's command queue, oldest entry first. -/
def State.queue (s : State) (t : TrunkId) : List CommandEntry := (s.trunk t).queue

def State.setQueue (s : State) (t : TrunkId) (q : List CommandEntry) : State :=
  s.modifyTrunk t fun x => { x with queue := q }

def State.image (s : State) (l : Station) : Image := s.images.get l

def State.setImage (s : State) (l : Station) (x : Image) : State :=
  { s with images := s.images.set l.val x l.isLt }

def State.modifyImage (s : State) (l : Station) (f : Image → Image) : State := s.setImage l (f (s.image l))

def State.limit (s : State) (l : Station) : LimitEntry := s.limits.get l

def State.setLimit (s : State) (l : Station) (x : LimitEntry) : State :=
  { s with limits := s.limits.set l.val x l.isLt }

/-- The map part of an entry. -/
def State.map (s : State) (l : Station) : MapPart := s.work.maps.get l

def State.setMap (s : State) (l : Station) (x : MapPart) : State :=
  { s with work := { s.work with maps := s.work.maps.set l.val x l.isLt } }

def State.offer (s : State) (p : PortId) : Option Offer := s.offers.get p

def State.setOffer (s : State) (p : PortId) (x : Option Offer) : State :=
  { s with offers := s.offers.set p.val x p.isLt }

/-- A trunk's schedule. -/
def State.schedule (s : State) : TrunkId → Schedule
  | .a => s.work.schedA
  | .b => s.work.schedB

def State.setSlotEntry (s : State) (t : TrunkId) (i : EntryIndex) (x : SlotEntry) : State :=
  match t with
  | .a => { s with work := { s.work with schedA := s.work.schedA.set i.val x i.isLt } }
  | .b => { s with work := { s.work with schedB := s.work.schedB.set i.val x i.isLt } }

/-- A trunk's refused set, in ascending order. -/
def State.refused (s : State) : TrunkId → List Nat
  | .a => s.refusedA
  | .b => s.refusedB

def State.setRefused (s : State) (t : TrunkId) (x : List Nat) : State :=
  match t with
  | .a => { s with refusedA := x }
  | .b => { s with refusedB := x }

/-- A trunk's bit rate parameter (R84). -/
def Params.rateOf (x : Params) : TrunkId → Nat
  | .a => x.rateA
  | .b => x.rateB

/-- A trunk's halt-on-check parameter (R100). -/
def Params.haltOnCheck (x : Params) : TrunkId → Bool
  | .a => x.haltOnCheckA
  | .b => x.haltOnCheckB

/-- The ticks of one bit-time of a trunk, at its running bit rate (R84). -/
def Trunk.bitTicks (x : Trunk) : Nat := ticksPerSecond / x.rate

/-- The module's time in milliseconds (R178). -/
def State.nowMs (s : State) : Nat := msOfTicks s.clock

/-- An event that falls at a moment of its own is taken no earlier than that moment: where the clock stands before it, the
time between passes first. Assumption 5. -/
def State.await (s : State) (due : Nat) : State := { s with clock := max s.clock due }

/-- The addresses that a map part binds on its trunk: none while the entry is disabled (R1). -/
def MapPart.addresses (x : MapPart) : List Nat :=
  if x.enabled then (if x.twin then [x.address, x.address + 1] else [x.address]) else []

/-- An address of a trunk is bound: it lies in the address set of an enabled entry (R134). -/
def State.isBound (s : State) (t : TrunkId) (address : Nat) : Bool :=
  stations.any fun l => (s.map l).trunk == t && (s.map l).addresses.contains address

end Sys2Proof.Machine
end

