-- ==== Sys2Proof/Machine/Flags.lean ====
section
/-! DEFINITION. The attention flags, the ATTN lines and the station status conditions (R172, R173, R182). -/

namespace Sys2Proof.Machine

/-- The attention flags in the places R183 gives. -/
def FlagSet.dispatch : FlagSet := 0x001
def FlagSet.cmd : FlagSet := 0x002
def FlagSet.station : FlagSet := 0x004
def FlagSet.trunk : FlagSet := 0x008
def FlagSet.candidate : FlagSet := 0x010
def FlagSet.watchdog : FlagSet := 0x020
def FlagSet.fallback : FlagSet := 0x040
def FlagSet.save : FlagSet := 0x080
def FlagSet.restart : FlagSet := 0x100

/-- Raising a flag adds it to the port's set (R172). -/
def Port.raise (x : Port) (f : FlagSet) : Port := { x with flags := x.flags ||| f }

/-- Raises a flag on one port. -/
def State.raise (s : State) (p : PortId) (f : FlagSet) : State := s.modifyPort p (·.raise f)

/-- Raises a flag on every port, whatever its state (R172). -/
def State.raiseAll (s : State) (f : FlagSet) : State := s.eachPort (·.raise f)

/-- Raises CANDIDATE on every OPERATOR port (R144). -/
def State.raiseCandidate (s : State) : State :=
  s.eachPort fun x => if x.profile = .operator then x.raise .candidate else x

/-- Raises DISPATCH on every port in OPENING, LIVE or LAPSED (R61). -/
def State.raiseDispatch (s : State) : State :=
  s.eachPort fun x =>
    match x.state with
    | .opening | .live | .lapsed => x.raise .dispatch
    | .closed | .shut => x

/-- The flag set that a two-byte field carries; bits that name no flag are ignored (R181). -/
def flagSetOf (n : Nat) : FlagSet := BitVec.ofNat 9 n

/-- A port's ATTN line is asserted while its flags and its mask have a flag in common (R173); every line is released while
the module is held in reset (R178). -/
def State.attn (s : State) (p : PortId) : Bool :=
  s.powered && (s.port p).flags &&& (s.port p).mask != 0

/-- The status set of a status byte: bits 5 to 7 are not stored (R182). -/
def statusOf (b : Byte) : StatusSet := b.setWidth 5

def StatusSet.local (x : StatusSet) : Bool := x.getLsbD 0
def StatusSet.sensorFault (x : StatusSet) : Bool := x.getLsbD 2
def StatusSet.capActive (x : StatusSet) : Bool := x.getLsbD 3
def StatusSet.attention (x : StatusSet) : Bool := x.getLsbD 4

/-- An optional status shows a condition. -/
def shows (status : Option StatusSet) (condition : StatusSet → Bool) : Bool :=
  match status with
  | some x => condition x
  | none => false

end Sys2Proof.Machine
end

