-- ==== Sys2Proof/Machine/Operands.lean ====
section
/-! DEFINITION. The operand forms of requests: identifiers, which are refused outside their range, and quantities, which are
clamped into it (R151); and the codes of every enumeration, both ways (R182, R183, section 12.4). -/

namespace Sys2Proof.Machine

/-- clamp(x, a, b): a when x < a, b when x > b, and x otherwise. -/
def clampNat (x a b : Nat) : Nat := if x < a then a else if b < x then b else x

/-- The same on signed quantities. -/
def clampInt (x a b : Int) : Int := if x < a then a else if b < x then b else x

/-- A logical index: 0 to 119. -/
def stationOf (n : Nat) : Option Station := if h : n < 120 then some ⟨n, h⟩ else none

/-- A schedule entry index: 0 to 95. -/
def entryOf (n : Nat) : Option EntryIndex := if h : n < 96 then some ⟨n, h⟩ else none

/-- A trunk: 0 is A, 1 is B (R183). -/
def trunkOf : Nat → Option TrunkId
  | 0 => some .a
  | 1 => some .b
  | _ => none

/-- A station address is one of 1 to 62. -/
def isAddress (n : Nat) : Bool := 1 ≤ n && n ≤ 62

/-- A twin stands at an even address, 2 to 60 (R1, R2). -/
def isTwinAddress (n : Nat) : Bool := n % 2 = 0 && n ≠ 62

def Item.ofCode : Nat → Option Item
  | 1 => some .cap
  | 2 => some .hold
  | 3 => some .poll
  | _ => none

def NotifyMode.ofCode : Nat → Option NotifyMode
  | 0 => some .each
  | 1 => some .drained
  | _ => none

/-- The value of an item, clamped: a HOLD to 1000, a CAP to 8000, and NONE stands (R77). -/
def itemValue (item : Item) (value : Nat) : Option Nat :=
  match item, absentAt65535 value with
  | .cap, some v => some (min v 8000)
  | .hold, some v => some (min v 1000)
  | .poll, _ => none
  | _, none => none

/-- An offer with its fields clamped (R43); none for a mode code that is none of the four. -/
def offerOf (mode f cmin cmax rank ramp discharge charge : Nat) : Option Offer :=
  let top := min cmax 60000
  match mode with
  | 0 => some .off
  | 1 => some (.fixed (min f 60000) (min (min cmin 60000) top) top)
  | 2 => some (.follow (min (min cmin 60000) top) top (clampNat rank 1 8) (min ramp 60000))
  | 3 => some (.store (clampNat rank 1 8) (min discharge 60000) (min charge 60000))
  | _ => none

/-- A schedule rule from its code and the logical index of the request (R105): the rule code is judged first, and then,
for the rules that name a station, the index. -/
inductive RuleOperand where
  | unknownRule
  | badIndex
  | rule (r : SlotRule)
  deriving DecidableEq, Repr

/-- A rule that names a station, if the index is one. -/
def ruleAt (make : Station → SlotRule) (index : Nat) : RuleOperand :=
  match stationOf index with
  | some l => .rule (make l)
  | none => .badIndex

def ruleOperand (code index : Nat) : RuleOperand :=
  match code with
  | 0 => ruleAt .scan index
  | 1 => ruleAt .twinHead index
  | 2 => .rule .twinTail
  | 3 => ruleAt .cmdOrScan index
  | 4 => .rule .cmdOrQuiet
  | 5 => .rule .rollcall
  | 6 => .rule .quiet
  | _ => .unknownRule

/-- The minimum length of a rule, in bit-times (R104). -/
def SlotRule.minimum : SlotRule → Nat
  | .scan _ => 264
  | .cmdOrScan _ => 264
  | .twinHead _ => 264
  | .twinTail => 208
  | .cmdOrQuiet => 204
  | .rollcall => 848
  | .quiet => 10

/-- A written slot length, as it is applied (R105). -/
def slotLength (rule : SlotRule) (length : Nat) : Nat :=
  if length = 0 then 0 else clampNat length rule.minimum 60000

/-- The largest of the four bit rates that does not exceed the value, and at least 9600 (R84). -/
def rateApplied (n : Nat) : Nat :=
  if 57600 ≤ n then 57600 else if 38400 ≤ n then 38400 else if 19200 ≤ n then 19200 else 9600

/-! ## Codes of the enumerations -/

def Item.code : Item → Nat
  | .cap => 1
  | .hold => 2
  | .poll => 3

def trunkCode : TrunkId → Nat
  | .a => 0
  | .b => 1

def StationState.code : StationState → Nat
  | .unbound => 0
  | .waiting => 1
  | .live => 2
  | .stale => 3
  | .lost => 4

def PortState.code : PortState → Nat
  | .closed => 0
  | .opening => 1
  | .live => 2
  | .lapsed => 3
  | .shut => 4

def profileCode : Profile → Nat
  | .plant => 0
  | .operator => 1

def NotifyMode.code : NotifyMode → Nat
  | .each => 0
  | .drained => 1

def TrunkState.code : TrunkState → Nat
  | .stopped => 0
  | .running => 1
  | .stopping => 2
  | .halted => 3

def FaultKind.code : FaultKind → Nat
  | .txStuck => 1
  | .echoLost => 2
  | .check => 3

def frameKindCode : Option FrameKind → Nat
  | none => 0
  | some .scan => 1
  | some .pair => 2
  | some .command => 3
  | some .rollcall => 4

def SlotRule.code : SlotRule → Nat
  | .scan _ => 0
  | .twinHead _ => 1
  | .twinTail => 2
  | .cmdOrScan _ => 3
  | .cmdOrQuiet => 4
  | .rollcall => 5
  | .quiet => 6

/-- The logical index that a rule holds, if it holds one. -/
def SlotRule.station : SlotRule → Option Station
  | .scan l => some l
  | .twinHead l => some l
  | .cmdOrScan l => some l
  | .twinTail => none
  | .cmdOrQuiet => none
  | .rollcall => none
  | .quiet => none

def NetMode.code : NetMode → Nat
  | .starting => 0
  | .run => 1
  | .fallback => 2

def RecordStatus.code : RecordStatus → Nat
  | .balanced => 0
  | .short => 1
  | .surplus => 2
  | .fallback => 3

def OfferMode.code : OfferMode → Nat
  | .off => 0
  | .fixed => 1
  | .follow => 2
  | .store => 3

def Originator.code : Originator → Nat
  | .port p => p.val
  | .limiter => 4
  | .module => 5

def CommandEnd.code : CommandEnd → Nat
  | .done => 0
  | .refused => 1
  | .noReply => 2
  | .dropped => 3

def LimitState.code : LimitState → Nat
  | .none => 0
  | .pending _ => 1
  | .active _ => 2
  | .blocked _ => 3

def Delivery.code : Delivery → Nat
  | .pending => 0
  | .applied => 1
  | .refused => 2

def ResponseCode.code : ResponseCode → Nat
  | .ok => 0x00
  | .busy => 0x01
  | .denied => 0x02
  | .notLive => 0x03
  | .badIndex => 0x04
  | .inUse => 0x05
  | .duplicate => 0x06
  | .held => 0x07
  | .qfull => 0x08
  | .fallback => 0x09
  | .notReady => 0x0A
  | .shut => 0x0B
  | .empty => 0x0C
  | .inFlight => 0x0D
  | .unknown => 0x0E
  | .none => 0x0F

end Sys2Proof.Machine
end

