-- ==== Sys2Proof/Machine/Ops.lean ====
section
/-! DEFINITION. The shared operations over the state: outcomes and the queues (chapter 7), entering and leaving LOST,
binding changes (chapter 1), the release of overrides (chapter 4), and a port's failure (chapter 10). -/

namespace Sys2Proof.Machine

/-! ## Outcomes -/

/-- An entry added to a port's outcome list: at eight the oldest is discarded and the overrun mark set (R158), and CMD is
raised in notify mode EACH (R159). -/
def Port.addOutcome (x : Port) (o : OutcomeEntry) : Port :=
  { x with
    outcomes := (if 8 ≤ x.outcomes.length then x.outcomes.drop 1 else x.outcomes) ++ [o]
    overrun := x.overrun || 8 ≤ x.outcomes.length
    flags := if x.notify = .each then x.flags ||| .cmd else x.flags }

/-- The entries of a list that have the port as originator. -/
def portEntries (q : List CommandEntry) (p : PortId) : Nat := q.countP fun e => e.originator == .port p

/-- In notify mode DRAINED, CMD is raised when the port holds no entry in either queue (R159). -/
def State.flagDrained (s : State) (p : PortId) : State :=
  if (s.port p).notify = .drained ∧ portEntries (s.queue .a) p + portEntries (s.queue .b) p = 0 then s.raise p .cmd else s

/-- An outcome, timed now, goes to a port's list. -/
def State.addOutcome (s : State) (p : PortId) (l : Station) (item : Item) (value : Option Nat) (o : CommandEnd) : State :=
  s.modifyPort p (·.addOutcome { index := l, item := item, value := value, outcome := o, at_ := s.clock })

/-- The delivery state that an outcome gives a matching override (R80). -/
def Delivery.after : CommandEnd → Delivery
  | .done => .applied
  | .refused => .refused
  | .noReply => .refused
  | .dropped => .refused

/-- An outcome of a port's command changes the delivery state of the station's override when the port owns it and item and
value are the override's (R80). -/
def State.judgeDelivery (s : State) (p : PortId) (l : Station) (item : Item) (value : Option Nat) (o : CommandEnd) : State :=
  match (s.image l).override with
  | some ov =>
    if ov.owner = p ∧ ov.item = item ∧ ov.value = value then
      s.modifyImage l fun x => { x with override := some { ov with delivery := Delivery.after o } }
    else s
  | none => s

/-- What an outcome taken by the limiter makes of a PENDING entry with the cap value (R74). -/
def LimitEntry.after (x : LimitEntry) (cap : Option Nat) : CommandEnd → LimitEntry
  | .done => { state := (match cap with | some c => .active c | none => .none), recovery := 0 }
  | .refused => { x with state := .blocked cap }
  | .noReply => .cleared
  | .dropped => .cleared

/-- The limiter takes an outcome only when its entry is PENDING with that value (R73, R74). -/
def State.limiterOutcome (s : State) (l : Station) (value : Option Nat) (o : CommandEnd) : State :=
  match (s.limit l).state with
  | .pending cap => if cap = value then s.setLimit l ((s.limit l).after cap o) else s
  | .none => s
  | .active _ => s
  | .blocked _ => s

/-- The outcome of an entry that is out of the queue goes to its originator (R131, step 2). An entry with the
release-reported mark is skipped, but its ending still counts for a DRAINED port (R127, R159). -/
def State.deliver (s : State) (e : CommandEntry) (o : CommandEnd) : State :=
  match e.originator with
  | .module => s
  | .limiter => s.limiterOutcome e.index e.value o
  | .port p =>
    if e.releaseReported then s.flagDrained p
    else ((s.addOutcome p e.index e.item e.value o).judgeDelivery p e.index e.item e.value o).flagDrained p

/-! ## The queues -/

/-- The entry is waiting: its in-flight mark is clear (R119). -/
def CommandEntry.waiting (e : CommandEntry) : Bool := e.stamp.isNone

/-- The entry is waiting and has the key (R119). -/
def waitingKey (l : Station) (item : Item) (e : CommandEntry) : Bool := e.waiting && e.index == l && e.item == item

/-- The queue holds a waiting entry of the key. -/
def hasWaiting (q : List CommandEntry) (l : Station) (item : Item) : Bool := q.any (waitingKey l item)

/-- A new entry: waiting, with attempts 0 (R120). -/
def newEntry (l : Station) (item : Item) (value : Option Nat) (originator : Originator) : CommandEntry where
  index := l
  item := item
  value := value
  originator := originator
  attempts := 0
  stamp := none
  evenDone := false
  evenStatus := none
  releaseReported := false

/-- Replaces the first entry of the list that the test picks. -/
def replaceFirst (q : List CommandEntry) (test : CommandEntry → Bool) (e : CommandEntry) : List CommandEntry :=
  q.set (q.findIdx test) e

/-- A displaced command ends without an outcome where the newcomer has the same originator, and DROPPED otherwise (R120). -/
def State.displaced (s : State) (old : CommandEntry) (originator : Originator) : State :=
  if old.originator = originator then s else s.deliver old .dropped

/-- An entry is offered to a trunk's queue (R120, R121): it takes the place of a waiting entry of its key, or is appended; none
where the queue is full for it. -/
def State.offerCommand (s : State) (t : TrunkId) (l : Station) (item : Item) (value : Option Nat)
    (originator : Originator) : Option State :=
  match (s.queue t).find? (waitingKey l item) with
  | some old =>
    some ((s.setQueue t (replaceFirst (s.queue t) (waitingKey l item) (newEntry l item value originator))).displaced old
      originator)
  | none =>
    if (s.queue t).length < 16 then some (s.setQueue t (s.queue t ++ [newEntry l item value originator])) else none

/-- An entry that is simply gone where the queue does not take it (R121). -/
def State.offerIfRoom (s : State) (t : TrunkId) (l : Station) (item : Item) (value : Option Nat)
    (originator : Originator) : State :=
  (s.offerCommand t l item value originator).getD s

/-- An entry leaves the queue with outcome DROPPED (R131). -/
def State.dropEntry (s : State) (t : TrunkId) (e : CommandEntry) : State :=
  (s.setQueue t ((s.queue t).erase e)).deliver e .dropped

/-- Every waiting entry for the station is removed, oldest first, each with outcome DROPPED (R129). -/
def State.dropWaiting (s : State) (t : TrunkId) (l : Station) : State :=
  ((s.queue t).filter fun e => e.waiting && e.index == l).foldl (fun s e => s.dropEntry t e) s

/-- The entry in flight of a trunk's queue. -/
def State.inFlight (s : State) (t : TrunkId) : Option CommandEntry := (s.queue t).find? fun e => !e.waiting

/-- Changes the entry in flight. -/
def State.setInFlight (s : State) (t : TrunkId) (e : CommandEntry) : State :=
  s.setQueue t (replaceFirst (s.queue t) (fun e => !e.waiting) e)

/-- The entry in flight ends: it leaves the order, and its outcome is delivered (R131). -/
def State.endInFlight (s : State) (t : TrunkId) (e : CommandEntry) (o : CommandEnd) : State :=
  (s.setQueue t ((s.queue t).eraseIdx ((s.queue t).findIdx fun e => !e.waiting))).deliver e o

/-- An entry made waiting again: in-flight mark clear, stamp dropped, and for a twin its even half not done (R125, R128). -/
def CommandEntry.backToWaiting (e : CommandEntry) : CommandEntry :=
  { e with stamp := none, evenDone := false, evenStatus := none }

/-! ## Station Table -/

/-- A station asks for attention: a POLL from MODULE is offered to its trunk's queue (R17, R132, R135). -/
def State.offerPoll (s : State) (l : Station) : State := s.offerIfRoom (s.map l).trunk l .poll none .module

/-- An entry enters LOST (R15): its waiting queue entries are dropped, and STATION is raised on every port. The timers stop
with the state (R9). -/
def State.enterLost (s : State) (l : Station) : State :=
  ((s.dropWaiting (s.map l).trunk l).modifyImage l fun x => { x with state := .lost }).raiseAll .station

/-- The command of an override: its station, item, value and owner (R22, R82). -/
def isOwnCommand (ov : Override) (l : Station) (e : CommandEntry) : Bool :=
  e.index == l && e.item == ov.item && e.value == ov.value && e.originator == .port ov.owner

/-- A release reports its own DROPPED to the owner (R22, R82). -/
def State.reportRelease (s : State) (l : Station) (ov : Override) : State :=
  (s.addOutcome ov.owner l ov.item ov.value .dropped).flagDrained ov.owner

/-- A binding change releases the station's override (R21 step 4, R22): where its own command is waiting, the removal that
follows reports it; otherwise the release reports it now, and an own command in flight is marked release-reported (R127).
Where an OVERRIDE repeated with the same item and value has left one such command in flight and another waiting, R22 and R127
do not say which is the override's own: DESIGN CHOICE, the waiting one is, and the one in flight keeps its mark clear, so that
its end reports a second DROPPED (assumption 20). -/
def State.releaseByBinding (s : State) (t : TrunkId) (l : Station) : State :=
  match (s.image l).override with
  | none => s
  | some ov =>
    let s1 := s.modifyImage l fun x => { x with override := none }
    if (s1.queue t).any fun e => e.waiting && isOwnCommand ov l e then s1
    else
      (s1.setQueue t ((s1.queue t).map fun e =>
        if !e.waiting && isOwnCommand ov l e then { e with releaseReported := true } else e)).reportRelease l ov

/-- The image part of an entry at a binding change (R21, steps 1 to 3). -/
def Image.rebound (x : Image) (enabled : Bool) : Image :=
  { x with
    generation := (x.generation + 1) % 256
    reading := none
    status := none
    misses := 0
    clash := false
    state := if enabled then .waiting else .unbound }

/-- A binding change (R21), in one step: the map part is written, and the seven effects follow. -/
def State.bindingChange (s : State) (l : Station) (m : MapPart) : State :=
  let t := (s.map l).trunk
  let s1 := (s.setMap l m).modifyImage l (·.rebound m.enabled)
  let s2 := ((s1.releaseByBinding t l).dropWaiting t l).setLimit l .cleared
  if (s.image l).state = .lost then s2.raiseAll .station else s2

/-- A map part passes the uniqueness check (R3): its address set shares no address with that of another enabled entry on the
same trunk. -/
def State.isUnique (s : State) (l : Station) (m : MapPart) : Bool :=
  stations.all fun k =>
    k == l || (s.map k).trunk != m.trunk || (s.map k).addresses.all fun a => !m.addresses.contains a

/-- Candidates at addresses that have just been bound leave the list, which clears the overflow mark (R138, R139, R140). -/
def State.removeBoundCandidates (s : State) (m : MapPart) : State :=
  let gone := fun (c : Candidate) => c.trunk == m.trunk && m.addresses.contains c.address
  if s.candidates.any gone then { s with candidates := s.candidates.filter (!gone ·), overflow := false } else s

/-! ## A port leaving LIVE -/

/-- One override of a port that has left LIVE is released (R82). -/
def State.releaseOverride (s : State) (l : Station) (ov : Override) : State :=
  let t := (s.map l).trunk
  let s1 := match (s.queue t).find? fun e => e.waiting && isOwnCommand ov l e with
    | some e => s.dropEntry t e
    | none => s.reportRelease l ov
  (s1.modifyImage l fun x => { x with override := none }).offerIfRoom t l ov.item none .module

/-- The override of the entry, if the port owns it, is released. -/
def State.releaseIfOwned (p : PortId) (s : State) (l : Station) : State :=
  match (s.image l).override with
  | some ov => if ov.owner = p then s.releaseOverride l ov else s
  | none => s

/-- Every override that the port owns is released, in order of logical index (R82). -/
def State.releaseOwned (s : State) (p : PortId) : State := stations.foldl (State.releaseIfOwned p) s

/-- The port has left LIVE: its offer becomes absent and its overrides are released (R45, R82, R170). -/
def State.leaveLive (s : State) (p : PortId) : State := (s.setOffer p none).releaseOwned p

/-- A LONG window of 30 s that starts now (R161). -/
def State.longWindow (s : State) : Window := { kind := .long, startMs := s.nowMs, lengthMs := 30000 }

/-- A REFRESH window that starts now, with the length W holds (R161). -/
def State.refreshWindow (s : State) (p : PortId) : Window :=
  { kind := .refresh, startMs := s.nowMs, lengthMs := (s.port p).windowLen * 1000 }

/-- The port record after a failure (R167, steps 1 and 2). -/
def Port.failed (x : Port) (window : Window) : Port :=
  if x.failures < 15 then { x with failures := x.failures + 1, state := .lapsed, window := some window }
  else { x with state := .shut, window := none }

/-- A failure of a port (R167), in one step. -/
def State.fail (s : State) (p : PortId) : State :=
  let s1 := s.modifyPort p (·.failed s.longWindow)
  (if (s.port p).state = .live then s1.leaveLive p else s1).raise p .watchdog

/-! ## Trunks at rest -/

/-- A trunk enters STOPPED: TRUNK is raised on every port (R93). -/
def State.enterStopped (s : State) (t : TrunkId) : State :=
  (s.modifyTrunk t fun x => { x with state := .stopped, slot := none }).raiseAll .trunk

/-- The trunk's schedule has no nonzero entry (R92). -/
def State.scheduleEmpty (s : State) (t : TrunkId) : Bool :=
  (List.finRange 96).all fun i => ((s.schedule t).get i).length == 0

/-- An entry in flight becomes waiting again, with what `e` says of its attempts (R125, R128): where a waiting entry of its key
was appended meanwhile, that one moves into its place and the entry ends as a displaced command ends (R120). -/
def State.waitAgain (s : State) (t : TrunkId) (e : CommandEntry) : State :=
  match (s.queue t).find? (waitingKey e.index e.item) with
  | some w =>
    (s.setQueue t (replaceFirst ((s.queue t).erase w) (fun e => !e.waiting) w)).displaced e w.originator
  | none => s.setInFlight t e.backToWaiting

/-- A command exchange abandoned by a halt (R128). -/
def State.abandonCommand (s : State) (t : TrunkId) : State :=
  match s.inFlight t with
  | none => s
  | some e =>
    if (e.stamp.map (·.generation)) ≠ some (s.image e.index).generation then s.endInFlight t e .dropped
    else s.waitAgain t e

/-- The kind of frame of an exchange (R83). -/
def ExchangeKind.frame : ExchangeKind → FrameKind
  | .scan _ => .scan
  | .headScan _ => .scan
  | .pair _ => .pair
  | .command _ => .command
  | .rollcall => .rollcall

/-- The exchange is a command exchange. -/
def ExchangeKind.isCommand : ExchangeKind → Bool
  | .command _ => true
  | .scan _ => false
  | .headScan _ => false
  | .pair _ => false
  | .rollcall => false

/-- The exchange in flight is abandoned (R101): it hands nothing on, and a command entry is dealt with by R128. -/
def State.abandon (s : State) (t : TrunkId) : State :=
  match (s.trunk t).exchange with
  | none => s
  | some x =>
    let s1 := if x.kind.isCommand then s.abandonCommand t else s
    s1.modifyTrunk t fun y => { y with exchange := none }

/-- The interface's own part of a fault: the transmitter is disabled and the fault record written (R94, R96). -/
def Trunk.faulted (x : Trunk) (record : FaultRecord) : Trunk :=
  { x with txEnabled := false, fault := some record }

/-- A fault halts a trunk (R94), with the kind of the frame in flight. The schedule entry is that of the slot in progress. -/
def State.halt (s : State) (t : TrunkId) (kind : FaultKind) (frame : Option FrameKind) : State :=
  let record : FaultRecord :=
    { kind := kind, at_ := s.clock, entry := (s.trunk t).slot.map (·.entry), frame := frame }
  ((s.abandon t).modifyTrunk t fun x => { x.faulted record with state := .halted, slot := none }).raiseAll .trunk

end Sys2Proof.Machine
end

