-- ==== Sys2Proof/Machine/Payloads.lean ====
section
/-! DEFINITION. The payloads of the responses, byte by byte. R184 tables a dispatch record and an image record; every other
payload carries the fields its own rule lists, in that order, at the widths of R181. Where R181's list names no width for a
field, the width is a DEDUCED reading: assumption 6. -/

namespace Sys2Proof.Machine

/-- A map part (R1, in the order of its table). -/
def MapPart.bytes (m : MapPart) : List Byte :=
  [markByte m.enabled, byte (trunkCode m.trunk), byte m.address, markByte m.twin] ++ be2 m.qc ++ [markByte m.index] ++ be2 m.dpmin
    ++ [markByte m.exempt] ++ be2 m.customerTag

/-- A schedule entry: rule, logical index or NONE, length (R105). -/
def SlotEntry.bytes (e : SlotEntry) : List Byte :=
  [byte e.rule.code, optByte (e.rule.station.map (·.val))] ++ be2 e.length

/-- An offer, field by field in the order of POST OFFER, with NONE in the fields that are not of its mode (R42, R43). -/
def Offer.bytes : Offer → List Byte
  | .off => byte 0 :: opt2 none ++ opt2 none ++ opt2 none ++ [optByte none] ++ opt2 none ++ opt2 none ++ opt2 none
  | .fixed f cmin cmax =>
      byte 1 :: be2 f ++ be2 cmin ++ be2 cmax ++ [optByte none] ++ opt2 none ++ opt2 none ++ opt2 none
  | .follow cmin cmax rank ramp =>
      byte 2 :: opt2 none ++ be2 cmin ++ be2 cmax ++ [byte rank] ++ be2 ramp ++ opt2 none ++ opt2 none
  | .store rank discharge charge =>
      byte 3 :: opt2 none ++ opt2 none ++ opt2 none ++ [byte rank] ++ opt2 none ++ be2 discharge ++ be2 charge

/-- The values of a reading, each NONE where it is absent (R155, R157). -/
def readingBytes : Option Reading → List Byte
  | some r => be2 r.q ++ be2 r.ts ++ be2 r.tr ++ be2 r.v ++ opt2 r.dp
  | none => opt2 none ++ opt2 none ++ opt2 none ++ opt2 none ++ opt2 none

/-- The reading's clamped mark; clear where the reading is absent (R184). -/
def clampedMark (r : Option Reading) : Bool :=
  match r with
  | some r => r.clamped
  | none => false

/-- The time of last good reading, in milliseconds (R4). -/
def goodMs (r : Option Reading) : Option Nat := r.map fun r => msOfTicks r.goodAt

/-- A station status, 255 where absent (R182). -/
def statusByte (status : Option StatusSet) : Byte := optByte (status.map (·.toNat))

/-- A byte of marks, the first in bit 0. -/
def markBits : List Bool → Nat
  | [] => 0
  | b :: bs => (if b then 1 else 0) + 2 * markBits bs

/-- An image record of 24 bytes (R157, R184). -/
def imageRecord (l : Station) (m : MapPart) (x : Image) : List Byte :=
  [byte l.val, byte (markBits [m.enabled, m.twin, m.trunk = .b]), byte m.address] ++ be2 m.customerTag
    ++ [byte x.state.code, byte x.generation, byte x.misses,
        byte (markBits [x.reading.isSome, clampedMark x.reading, x.clash, x.override.isSome])]
    ++ be4 ((goodMs x.reading).getD 4294967295) ++ readingBytes x.reading ++ [statusByte x.status]

/-- An override, or NONE in each of its fields (R155). -/
def overrideBytes : Option Override → List Byte
  | some ov => [byte ov.owner.val, byte ov.item.code] ++ opt2 ov.value ++ [byte ov.delivery.code]
  | none => [optByte none, optByte none] ++ opt2 none ++ [optByte none]

/-- The cap value of a limiter entry; NONE where it is absent (R64). -/
def LimitState.cap : LimitState → Option Nat
  | .none => Option.none
  | .pending c => c
  | .active c => some c
  | .blocked c => c

/-- READ STATION's payload (R155). -/
def stationBytes (m : MapPart) (x : Image) (e : LimitEntry) : List Byte :=
  m.bytes ++ [byte x.state.code, byte x.generation, byte x.misses] ++ readingBytes x.reading
    ++ [markByte (clampedMark x.reading)] ++ opt4 (goodMs x.reading) ++ [statusByte x.status, markByte x.clash]
    ++ overrideBytes x.override ++ [byte e.state.code] ++ opt2 e.state.cap ++ [byte e.recovery]

/-- A queue entry, as READ QUEUE shows it (R133). -/
def CommandEntry.bytes (e : CommandEntry) : List Byte :=
  [byte e.index.val, byte e.item.code] ++ opt2 e.value
    ++ [byte e.originator.code, byte e.attempts, markByte (!e.waiting), markByte e.evenDone]

/-- A candidate (R136, R143). -/
def Candidate.bytes (c : Candidate) : List Byte :=
  [byte (trunkCode c.trunk), byte c.address] ++ be4 (msOfTicks c.firstSeen) ++ be2 c.seen ++ [byte c.absences, markByte c.clash]

/-- An outcome entry (R158). -/
def OutcomeEntry.bytes (o : OutcomeEntry) : List Byte :=
  [byte o.index.val, byte o.item.code] ++ opt2 o.value ++ [byte o.outcome.code] ++ be4 (msOfTicks o.at_)

/-- A share entry of 11 bytes (R184). -/
def ShareEntry.bytes (e : ShareEntry) : List Byte :=
  [byte e.port.val, byte e.mode.code] ++ be4Signed e.share ++ be4 e.flow ++ [byte (markBits [e.ramped])]

/-- A dispatch record (R184). -/
def Record.bytes (r : Record) : List Byte :=
  be2 r.sequence ++ be4 r.time ++ [byte r.mode.code, byte r.status.code] ++ be4 r.demand ++ be4 r.adjusted ++ be4 r.flow
    ++ be2 r.setpoint ++ be4Signed r.unmet
    ++ [byte (markBits [r.incomplete, r.dpBlind]), byte r.live, byte r.stale, byte r.excluded, byte r.shares.length]
    ++ r.shares.flatMap (·.bytes)

/-- A flag set, two bytes (R183). -/
def FlagSet.bytes (f : FlagSet) : List Byte := be2 f.toNat

/-- A fault record, or NONE in each of its fields (R83, R154); its time is an optional four-byte field (R181). -/
def faultBytes : Option FaultRecord → List Byte
  | some f =>
      [byte f.kind.code] ++ opt4 (some (msOfTicks f.at_))
        ++ [optByte (f.entry.map (·.val)), byte (frameKindCode f.frame)]
  | none => [optByte none] ++ opt4 none ++ [optByte none, optByte none]

/-- One trunk's part of STATUS (R154). -/
def Trunk.bytes (x : Trunk) : List Byte :=
  [byte x.state.code] ++ be2 x.rate ++ faultBytes x.fault ++ [markByte x.lineHeld] ++ be4 x.sweeps
    ++ [optByte (x.pointer.map (·.val)), markByte x.commandMark, optByte (x.lastMismatch.map (·.val))]

/-- The port's own part of STATUS (R154). -/
def Port.bytes (p : PortId) (x : Port) : List Byte :=
  [byte p.val, byte (profileCode x.profile), byte x.state.code, byte x.failures, byte x.windowLen] ++ x.flags.bytes ++ x.mask.bytes
    ++ [byte x.notify.code, byte x.outcomes.length, markByte x.overrun]

/-- STATUS's payload (R154). -/
def State.statusBytes (s : State) (p : PortId) : List Byte :=
  (s.port p).bytes p ++ portIds.flatMap (fun k => [byte (profileCode (s.port k).profile), byte (s.port k).state.code])
    ++ [byte s.mode.code, markByte s.clearMark, markByte s.current.isSome]
    ++ be2 (if s.current.isSome then s.sequence else 65535)
    ++ [markByte s.configDefaulted, markByte s.saving.isSome] ++ s.trunkA.bytes ++ s.trunkB.bytes ++ be4 s.nowMs

/-- The milliseconds left in a port's running window (R153). -/
def State.windowLeft (s : State) (p : PortId) : Option Nat :=
  (s.port p).window.map fun w => w.startMs + w.lengthMs - s.nowMs

/-- READ CANDIDATES's payload (R143, R181). -/
def State.candidateBytes (s : State) : List Byte :=
  [markByte s.overflow, byte s.candidates.length] ++ s.candidates.flatMap (·.bytes)
    ++ byte s.refusedA.length :: s.refusedA.map byte ++ byte s.refusedB.length :: s.refusedB.map byte

end Sys2Proof.Machine
end

