-- ==== Sys2Proof/Machine/Link.lean ====
section
/-! DEFINITION. The plant link (chapter 9): the answering cycle, who may ask what, reception of frames, and the rows
REQUEST_DISCARDED, UNKNOWN_REQUEST, RESPONSE_COMPLETE and PORT_BYTE_RECEIVED. -/

namespace Sys2Proof.Machine

/-- What carrying a request out gives: the state after it, the response code and the payload. -/
abbrev Carried := State × ResponseCode × List Byte

/-- Answered OK with a payload. -/
def answerOk (s : State) (payload : List Byte) : Carried := (s, .ok, payload)

/-- Answered with another code: no payload, and nothing has changed (R148). -/
def answerCode (s : State) (c : ResponseCode) : Carried := (s, c, [])

/-- The bytes of a response frame (R183). -/
def Response.frame (r : Response) : List Byte :=
  let body := byte (r.payload.length + 8) :: byte r.tag :: byte r.request :: byte r.code.code :: r.payload
  0x5A#8 :: 0xC3#8 :: body ++ crc16Bytes body

/-- The ticks that a response occupies the link: ten bit-times for each byte, at one tick a bit (R145). DESIGN CHOICE: the
bytes follow one another without a gap, which the manual says of no response (assumption 32). -/
def Response.ticks (r : Response) : Nat := 10 * (r.payload.length + 8)

/-- The port begins to send a response now (R147). -/
def State.send (s : State) (p : PortId) (r : Response) (restarts : Bool) : State :=
  s.modifyPort p fun x => { x with sending := some { response := r, endAt := s.clock + r.ticks, restarts := restarts } }

/-- How a request is open (R149): the profile it needs, whether it needs LIVE, and whether it is one of the four writes that
are refused FALLBACK in FALLBACK and BUSY during a SAVE. -/
structure Access where
  profile : Option Profile
  live    : Bool
  write   : Bool
  deriving DecidableEq, Repr

/-- Both profiles, in OPENING, LIVE and LAPSED. -/
def Access.open : Access := { profile := none, live := false, write := false }

/-- Both profiles, LIVE alone: FALLBACK CLEAR. -/
def Access.openLive : Access := { profile := none, live := true, write := false }

def Access.plant : Access := { profile := some .plant, live := true, write := false }

def Access.operator : Access := { profile := some .operator, live := true, write := false }

/-- WRITE MAP, WRITE SLOT, WRITE PARAM and SAVE. -/
def Access.fourWrites : Access := { profile := some .operator, live := true, write := true }

/-- Steps 1 to 7 of R150, for a known request other than HELLO: the code that turns it away, or none where it is to be
judged by its own rule. -/
def State.gate (s : State) (p : PortId) (a : Access) : Option ResponseCode :=
  let x := s.port p
  if x.state = .closed then some .notLive
  else if x.state = .shut then some .shut
  else if a.profile.any (· ≠ x.profile) then some .denied
  else if a.live ∧ x.state ≠ .live then some .notLive
  else if a.write ∧ s.mode = .fallback then some .fallback
  else if a.write ∧ s.saving.isSome then some .busy
  else none

/-- HELLO is carried out in every state of the port (R149, R150). -/
def gateHello (_ : State) (_ : PortId) : Option ResponseCode := none

/-- An unknown code is judged by the first three steps of R150. -/
def gateUnknown (s : State) (p : PortId) : Option ResponseCode :=
  match (s.port p).state with
  | .closed => some .notLive
  | .shut => some .shut
  | .opening | .live | .lapsed => some .unknown

/-- The frame that has been judged leaves the receiver (R146). -/
def State.frameJudged (s : State) (p : PortId) : State :=
  s.modifyPort p fun x => { x with receiving := x.receiving.tail }

/-- A request is taken on a port (R146, R147, R150): while the module is held in reset nothing arrives; on an ANSWERING port
it is turned away and owed a BUSY; on a FREE port it is judged by the gate and then carried out, and its response begins. -/
def State.take (s : State) (p : PortId) (tag code : Nat) (gate : State → PortId → Option ResponseCode) (restarts : Bool)
    (carryOut : State → Carried) : State :=
  if s.powered then
    let s1 := s.frameJudged p
    if (s1.port p).sending.isSome then s1.modifyPort p fun x => { x with owedBusy := some (tag, code) }
    else
      match gate s1 p with
      | some c => s1.send p { tag := tag, request := code, code := c, payload := [] } false
      | none =>
        let r := carryOut s1
        r.1.send p { tag := tag, request := code, code := r.2.1, payload := r.2.2 } restarts
  else s

/-- A request of the table other than HELLO and RESTART. -/
def State.request (s : State) (p : PortId) (tag code : Nat) (a : Access) (carryOut : State → Carried) : State :=
  s.take p tag code (fun s p => s.gate p a) false carryOut

/-- REQUEST_DISCARDED (R146): no effect beyond the receiver's, and no response. -/
def execRequestDiscarded (p : PortId) (s : State) : Host.Outcome State Fault Refusal :=
  .next (if s.powered then s.frameJudged p else s)

/-- UNKNOWN_REQUEST (R150, steps 1 to 3). -/
def execUnknownRequest (p : PortId) (tag code : Nat) (s : State) : Host.Outcome State Fault Refusal :=
  .next (s.take p tag code gateUnknown false fun s => answerCode s .unknown)

/-! ## RESTART's network reset (R179) -/

/-- A trunk at RESTART (R102, R103, R118, R119): the exchange in flight is abandoned and the queue emptied, the scheduler is
set back, and STOPPING becomes STOPPED. -/
def Trunk.restarted (x : Trunk) : Trunk :=
  { x with
    state := if x.state = .stopping then .stopped else x.state
    pointer := none
    sweeps := 0
    lastMismatch := none
    sweepMismatch := false
    slot := none
    exchange := none
    queue := [] }

/-- The DP setpoint at either reset (R31). -/
def Params.startSetpoint (x : Params) : Nat := clampNat x.sStart x.sMin x.sMax

/-- The network state is reset in one step (R179). -/
def State.networkReset (s : State) : State :=
  let stopping := s.trunkA.state = .stopping ∨ s.trunkB.state = .stopping
  let s1 : State :=
    { s with
      images := tabulate 120 fun l => Image.atReset (s.map l).enabled
      limits := Vector.replicate 120 LimitEntry.cleared
      trunkA := s.trunkA.restarted
      trunkB := s.trunkB.restarted
      candidates := []
      overflow := false
      refusedA := []
      refusedB := []
      offers := Vector.replicate 4 none
      current := none
      previous := none
      sequence := 0
      setpoint := s.params.startSetpoint
      mode := .starting
      clearMark := false
      dispatchDue := s.clock + s.params.dispatchPeriod * ticksPerSecond
      limiterDue := s.clock + s.params.limiterPeriod * ticksPerSecond }
  let s2 := s1.raiseAll .restart
  if stopping then s2.raiseAll .trunk else s2

/-- The end of a response (R147): an owed BUSY is sent next; otherwise the port becomes FREE. -/
def State.nextResponse (s : State) (p : PortId) : State :=
  match (s.port p).owedBusy with
  | some (tag, code) =>
    (s.modifyPort p fun x => { x with owedBusy := none }).send p
      { tag := tag, request := code, code := .busy, payload := [] } false
  | none => s.modifyPort p fun x => { x with sending := none }

/-- RESPONSE_COMPLETE (R147; R148 and R179 for the response of a RESTART). On a port that sends nothing no response
completes. -/
def execResponseComplete (p : PortId) (s : State) : Host.Outcome State Fault Refusal :=
  match (s.port p).sending with
  | none => .next s
  | some x =>
    if s.powered then
      let s1 := s.await x.endAt
      .next ((if x.restarts then s1.networkReset else s1).nextResponse p)
    else .next s

/-! ## Reception -/

/-- A port frame is open: a byte that begins now extends it. It ends at 64 bytes, or at a gap of more than 3 byte-times, which
are 30 ticks (R146). -/
def PortFrame.isOpen (f : PortFrame) (start : Nat) : Bool := f.bytes.length < 64 && start ≤ f.endAt + 30

/-- The frames received, with a byte that begins at the tick `start`. -/
def receiveByte (frames : List PortFrame) (b : Byte) (start : Nat) : List PortFrame :=
  match frames.getLast? with
  | some f =>
    if f.isOpen start then frames.dropLast ++ [{ bytes := f.bytes ++ [b], endAt := start + 10 }]
    else frames ++ [{ bytes := [b], endAt := start + 10 }]
  | none => [{ bytes := [b], endAt := start + 10 }]

/-- The end of the last byte received on the port and not yet judged: no byte begins before it. -/
def Port.lineFree (x : Port) : Nat :=
  match x.receiving.getLast? with
  | some f => f.endAt
  | none => 0

/-- PORT_BYTE_RECEIVED (R146): a byte begins a frame or extends the open one. Bytes that arrive before start-up ends are
discarded (R178). -/
def execPortByteReceived (p : PortId) (b : Byte) (s : State) : Host.Outcome State Fault Refusal :=
  if s.powered then
    let s1 := s.await (s.port p).lineFree
    .next (s1.modifyPort p fun x => { x with receiving := receiveByte x.receiving b s1.clock })
  else .next s

end Sys2Proof.Machine
end

