-- ==== Sys2Proof/Machine/Allocation.lean ====
section
/-! DEFINITION. The computations of a dispatch: the demand pass, the DP reset (chapter 2), the allocation among the offers and
the flow shares (section 3.3). -/

namespace Sys2Proof.Machine

/-! ## The demand pass -/

/-- The temperature difference of a reading: 0 where the return is not warmer than the supply (R26). -/
def Reading.dT (r : Reading) : Nat := if r.ts < r.tr then r.tr - r.ts else 0

/-- The station load, in kW (R26). -/
def Reading.load (r : Reading) : Nat := (r.q * r.dT * 419 + 50000) / 100000

/-- The reading with which an entry counts in demand: that of a LIVE or STALE entry (R25). -/
def Image.counted (x : Image) : Option Reading :=
  match x.state with
  | .live => x.reading
  | .stale => x.reading
  | .waiting => none
  | .lost => none
  | .unbound => none

/-- A quantity of the counted readings, summed over the table (R27). -/
def State.total (s : State) (f : Reading → Nat) : Nat :=
  (stations.map fun l => match (s.image l).counted with | some r => f r | none => 0).sum

/-- The entries in a state (R28). -/
def State.countIn (s : State) (st : StationState) : Nat := stations.countP fun l => (s.image l).state == st

/-- The network demand D (R27). -/
def State.demand (s : State) : Nat := s.total (·.load)

/-- The network flow Q (R27). -/
def State.networkFlow (s : State) : Nat := s.total (·.q)

/-- The adjusted demand D′ of a demand, with the loss allowance (R29). -/
def adjustedDemand (demand loss : Nat) : Nat := (demand * (1000 + loss) + 500) / 1000

/-- The excluded count (R28). -/
def State.excluded (s : State) : Nat := s.countIn .waiting + s.countIn .lost

/-! ## The DP reset -/

/-- The margin and the valve position of an entry of the reference set; none for an entry outside it (R32). -/
def State.margin (s : State) (l : Station) : Option (Int × Nat) :=
  if (s.image l).state = .live ∧ (s.map l).index then
    match (s.image l).reading with
    | some r => r.dp.map fun dp => ((dp : Int) - ((s.map l).dpmin : Int), r.v)
    | none => none
  else none

/-- The reference set, as the margin and valve position of each of its entries (R32). -/
def State.reference (s : State) : List (Int × Nat) := stations.filterMap s.margin

/-- The DP setpoint after the reset of a dispatch computed in RUN (R33, R34). -/
def State.resetSetpoint (s : State) : Nat :=
  let set := s.reference
  let x := s.params
  let moved : Nat :=
    if set.isEmpty then s.setpoint
    else if set.any fun e => e.1 < 0 then s.setpoint + x.stepUp
    else if set.all fun e => (x.deadband : Int) < e.1 ∧ e.2 < 900 then s.setpoint - x.stepDown
    else s.setpoint
  if set.isEmpty then moved else clampNat moved x.sMin x.sMax

/-! ## Allocation -/

/-- A FOLLOW offer taking part. -/
structure Follow where
  port : PortId
  cmin : Nat
  cmax : Nat
  rank : Nat
  ramp : Nat
  deriving DecidableEq, Repr

/-- A STORE offer taking part. -/
structure Store where
  port      : PortId
  rank      : Nat
  discharge : Nat
  charge    : Nat
  deriving DecidableEq, Repr

/-- The ports that take part, each with its offer, in order of port number (R53). -/
def State.parts (s : State) : List (PortId × Offer) :=
  portIds.filterMap fun p =>
    if (s.port p).profile = .plant ∧ (s.port p).state = .live then (s.offer p).map fun o => (p, o) else none

/-- The share of a FIXED offer (R54). -/
def fixedShare (f cmin cmax : Nat) : Int := clampInt f cmin cmax

/-- The FIXED shares, by port (R54). -/
def fixedShares (parts : List (PortId × Offer)) : List (PortId × Int) :=
  parts.filterMap fun (p, o) =>
    match o with
    | .fixed f cmin cmax => some (p, fixedShare f cmin cmax)
    | .off => none
    | .follow _ _ _ _ => none
    | .store _ _ _ => none

/-- The FOLLOW offers in rank order; equal ranks in order of port number (R53). -/
def follows (parts : List (PortId × Offer)) : List Follow :=
  (parts.filterMap fun (p, o) =>
    match o with
    | .follow cmin cmax rank ramp =>
      some ({ port := p, cmin := cmin, cmax := cmax, rank := rank, ramp := ramp } : Follow)
    | .off => none
    | .fixed _ _ _ => none
    | .store _ _ _ => none).insertionSort fun a b => a.rank ≤ b.rank

/-- The STORE offers in rank order; equal ranks in order of port number (R53). -/
def stores (parts : List (PortId × Offer)) : List Store :=
  (parts.filterMap fun (p, o) =>
    match o with
    | .store rank discharge charge =>
      some ({ port := p, rank := rank, discharge := discharge, charge := charge } : Store)
    | .off => none
    | .fixed _ _ _ => none
    | .follow _ _ _ _ => none).insertionSort fun a b => a.rank ≤ b.rank

/-- The desired share of a FOLLOW offer from the remainder R (R55). -/
def Follow.desired (o : Follow) (r : Int) : Int := if (o.cmin : Int) ≤ r then min (o.cmax : Int) r else 0

/-- The FOLLOW offers served in rank order from the remainder R: each with its desired share (R55). -/
def serveFollows : List Follow → Int → List (Follow × Int)
  | [], _ => []
  | o :: os, r => (o, o.desired r) :: serveFollows os (r - o.desired r)

/-- The share of a FOLLOW entry from its desired and its previous share (R56). -/
def Follow.ramped (o : Follow) (desired previous : Int) : Int :=
  if desired = 0 then 0
  else if o.ramp = 0 then desired
  else if previous = 0 then min desired (o.cmin + o.ramp)
  else clampInt (clampInt desired (previous - o.ramp) (previous + o.ramp)) o.cmin o.cmax

/-- The previous share of a port: that of its entry in the record current at the expiry, and 0 where there is none (R56). -/
def State.previousShare (s : State) (p : PortId) : Int :=
  match s.current with
  | some r =>
    if r.mode = .fallback then 0
    else match r.shares.find? (·.port = p) with
      | some e => e.share
      | none => 0
  | none => 0

/-- The share of a STORE offer from L (R57). -/
def Store.share (o : Store) (l : Int) : Int :=
  if 0 < l then min l o.discharge else if l < 0 then max l (-(o.charge : Int)) else 0

/-- The STORE offers served in rank order from L: each with its share (R57). -/
def serveStores : List Store → Int → List (PortId × Int)
  | [], _ => []
  | o :: os, l => (o.port, o.share l) :: serveStores os (l - o.share l)

/-- The sum of the shares of a list. -/
def shareSum (xs : List (PortId × Int)) : Int := (xs.map (·.2)).sum

/-- The share of a port in a list, if it has one. -/
def shareIn (xs : List (PortId × Int)) (p : PortId) : Int :=
  match xs.find? (·.1 = p) with
  | some e => e.2
  | none => 0

/-- An allocation of D′: the FIXED shares, the FOLLOW shares with their desired shares, and the STORE shares. -/
structure Allocation where
  fixed  : List (PortId × Int)
  /-- Port, desired share, share. -/
  follow : List (PortId × Int × Int)
  store  : List (PortId × Int)
  deriving DecidableEq, Repr

/-- The allocation of D′ among the parts, given each port's previous share (R54 to R57). -/
def allocate (parts : List (PortId × Offer)) (adjusted : Nat) (previous : PortId → Int) : Allocation :=
  let fixed := fixedShares parts
  let served := serveFollows (follows parts) (adjusted - shareSum fixed)
  let follow := served.map fun (o, d) => (o.port, d, o.ramped d (previous o.port))
  let left : Int := adjusted - shareSum fixed - (follow.map (·.2.2)).sum
  { fixed := fixed, follow := follow, store := serveStores (stores parts) left }

/-- The unmet value U (R58). -/
def Allocation.unmet (a : Allocation) (adjusted : Nat) : Int :=
  adjusted - shareSum a.fixed - (a.follow.map (·.2.2)).sum - shareSum a.store

/-- The mode of an offer. -/
def Offer.mode : Offer → OfferMode
  | .off => .off
  | .fixed _ _ _ => .fixed
  | .follow _ _ _ _ => .follow
  | .store _ _ _ => .store

/-- The share and the RAMPED mark of a port under an allocation (R53, R56). -/
def Allocation.entry (a : Allocation) (p : PortId) (o : Offer) : Int × Bool :=
  match o with
  | .off => (0, false)
  | .fixed _ _ _ => (shareIn a.fixed p, false)
  | .follow _ _ _ _ =>
    match a.follow.find? (·.1 = p) with
    | some e => (e.2.2, e.2.2 ≠ e.2.1)
    | none => (0, false)
  | .store _ _ _ => (shareIn a.store p, false)

/-- The share list before the flow is divided (R53). -/
def Allocation.shares (a : Allocation) (parts : List (PortId × Offer)) : List ShareEntry :=
  parts.map fun (p, o) =>
    { port := p, mode := o.mode, share := (a.entry p o).1, flow := 0, ramped := (a.entry p o).2 }

/-! ## Flow shares (R59) -/

/-- A share where it is positive, and 0 otherwise. -/
def ShareEntry.positive (e : ShareEntry) : Nat := e.share.toNat

/-- P⁺, the sum of the positive shares. -/
def positiveSum (es : List ShareEntry) : Nat := (es.map (·.positive)).sum

/-- The remainder of an entry's division of Q. -/
def ShareEntry.remainder (e : ShareEntry) (q sum : Nat) : Nat := (q * e.positive) % sum

/-- An entry stands before another in the handing out of the units left over: it has the larger remainder, or an equal one
and the lower port number. -/
def ShareEntry.before (e f : ShareEntry) (q sum : Nat) : Bool :=
  f.remainder q sum < e.remainder q sum || (f.remainder q sum == e.remainder q sum && e.port.val < f.port.val)

/-- The units left over: Q less the sum of the floors. -/
def leftOver (es : List ShareEntry) (q sum : Nat) : Nat := q - (es.map fun e => q * e.positive / sum).sum

/-- The flow share of an entry of a list (R59). -/
def flowShare (es : List ShareEntry) (q : Nat) (e : ShareEntry) : Nat :=
  let sum := positiveSum es
  if e.positive = 0 ∨ sum = 0 then 0
  else
    q * e.positive / sum
      + if (es.countP fun f => 0 < f.positive && f.before e q sum) < leftOver es q sum then 1 else 0

/-- The share list with its flow shares (R59). -/
def withFlow (es : List ShareEntry) (q : Nat) : List ShareEntry := es.map fun e => { e with flow := flowShare es q e }

/-- The status of a record from U (R58). -/
def statusFromUnmet (u : Int) : RecordStatus := if u = 0 then .balanced else if 0 < u then .short else .surplus

end Sys2Proof.Machine
end

