-- ==== Sys2Proof/Machine/Limiter.lean ====
section
/-! DEFINITION. The Low-ΔT Limiter (chapter 4): its evaluation, LIMITER_EXPIRY, and the release of its caps on FALLBACK. -/

namespace Sys2Proof.Machine

/-- An entry is in scope (R67): LIVE, without an override, and with no CAP in its trunk's queue that another originator
placed. -/
def State.inScope (s : State) (l : Station) : Bool :=
  (s.image l).state = .live && (s.image l).override.isNone
    && (s.queue (s.map l).trunk).all fun e => !(e.index == l && e.item == .cap && e.originator != .limiter)

/-- An entry in scope is eligible (R67). -/
def MapPart.eligible (m : MapPart) : Bool := !m.exempt && 0 < m.qc

/-- The condition low (R68). For a qc of 1 to 4 the rule's formula has a threshold of 0, which a flow of 0 would reach, and its
last sentence says that a flow of 0 is never low: DEDUCED, the model follows the sentence (assumption 30). -/
def isLow (x : Params) (m : MapPart) (r : Reading) : Bool :=
  m.eligible && 0 < r.q && m.qc * 200 / 1000 ≤ r.q && r.dT < x.dTmin

/-- The condition recovered (R68). -/
def isRecovered (x : Params) (r : Reading) : Bool := x.dTmin + x.hysteresis ≤ r.dT

/-- The cap of a low entry (R68). -/
def capOf (x : Params) (m : MapPart) (r : Reading) : Nat := max (r.q * r.dT / x.dTmin) (m.qc * x.capfloor / 1000)

/-- Two caps differ by capstep or more. -/
def differs (x : Params) (a b : Nat) : Bool := x.capstep ≤ max a b - min a b

/-- What an evaluation decides for an entry: nothing to queue, with the entry as it then is; or a CAP to queue, with the
recovery count the entry has where the queue does not take it (R73). -/
inductive LimitDecision where
  | keep (e : LimitEntry)
  | queue (cap : Option Nat) (notTaken : Nat)
  deriving DecidableEq, Repr

/-- An entry in state NONE (R69). -/
def decideNone (x : Params) (m : MapPart) (r : Reading) (status : Option StatusSet) : LimitDecision :=
  if isLow x m r then .queue (some (capOf x m r)) 0
  else if shows status StatusSet.capActive then .queue none 0
  else .keep .cleared

/-- An entry in state PENDING with its cap value (R70). -/
def decidePending (x : Params) (m : MapPart) (r : Reading) (e : LimitEntry) (cap : Option Nat) : LimitDecision :=
  match cap with
  | some c =>
    if m.eligible = false then .queue none 0
    else if isLow x m r ∧ differs x (capOf x m r) c then .queue (some (capOf x m r)) 0
    else .keep e
  | none => if isLow x m r then .queue (some (capOf x m r)) 0 else .keep e

/-- An entry in state ACTIVE with its cap value: the first row of R71 that holds. -/
def decideActive (x : Params) (m : MapPart) (r : Reading) (e : LimitEntry) (c : Nat) : LimitDecision :=
  if m.eligible = false then .queue none 0
  else if isLow x m r ∧ differs x (capOf x m r) c then .queue (some (capOf x m r)) 0
  else if isLow x m r then .keep { e with recovery := 0 }
  else if isRecovered x r ∧ 2 ≤ e.recovery then .queue none (min 3 (e.recovery + 1))
  else if isRecovered x r then .keep { e with recovery := e.recovery + 1 }
  else .keep { e with recovery := 0 }

/-- An entry in state BLOCKED (R72): judged by LOCAL, and without it as an entry in state NONE. -/
def decideBlocked (x : Params) (m : MapPart) (r : Reading) (status : Option StatusSet) (e : LimitEntry) : LimitDecision :=
  if shows status StatusSet.local then .keep e else decideNone x m r status

/-- The decision for an entry in scope, from its reading and status. -/
def decideEntry (x : Params) (m : MapPart) (r : Reading) (status : Option StatusSet) (e : LimitEntry) : LimitDecision :=
  match e.state with
  | .none => decideNone x m r status
  | .pending cap => decidePending x m r e cap
  | .active c => decideActive x m r e c
  | .blocked _ => decideBlocked x m r status e

/-- A decision carried out (R73): where the queue does not take the CAP, the entry keeps its state and cap value. -/
def State.carryOut (s : State) (l : Station) : LimitDecision → State
  | .keep e => s.setLimit l e
  | .queue cap notTaken =>
    match s.offerCommand (s.map l).trunk l .cap cap .limiter with
    | some s1 => s1.setLimit l { state := .pending cap, recovery := 0 }
    | none => s.setLimit l { s.limit l with recovery := notTaken }

/-- One entry at an evaluation: passed over unless it is in scope. -/
def State.evaluateEntry (s : State) (l : Station) : State :=
  if s.inScope l then
    match (s.image l).reading with
    | some r => s.carryOut l (decideEntry s.params (s.map l) r (s.image l).status (s.limit l))
    | none => s
  else s

/-- One evaluation, in order of logical index (R67, R73). -/
def State.evaluate (s : State) : State := stations.foldl State.evaluateEntry s

/-- LIMITER_EXPIRY (R65): the timer starts its next period; in RUN an evaluation follows, and otherwise nothing. -/
def execLimiterExpiry (s : State) : Host.Outcome State Fault Refusal :=
  if s.powered then
    let s1 := s.await s.limiterDue
    let s2 : State := { s1 with limiterDue := s1.clock + s1.params.limiterPeriod * ticksPerSecond }
    .next (match s2.mode with
      | .run => s2.evaluate
      | .starting | .fallback => s2)
  else .next s

/-- One entry at the FALLBACK release: a claimed or outstanding command is released by MODULE (R76, step 1). -/
def State.releaseCap (s : State) (l : Station) : State :=
  match (s.limit l).state with
  | .active _ => s.offerIfRoom (s.map l).trunk l .cap none .module
  | .pending _ => s.offerIfRoom (s.map l).trunk l .cap none .module
  | .blocked _ => s
  | .none => s

/-- The limiter on entry into FALLBACK (R76). -/
def State.fallbackRelease (s : State) : State :=
  { stations.foldl State.releaseCap s with limits := Vector.replicate 120 LimitEntry.cleared }

end Sys2Proof.Machine
end

