-- ==== Sys2Proof/Machine/DispatchUnit.lean ====
section
/-! DEFINITION. The Dispatch Unit (chapter 3): offers, the fallback-clear mark and DISPATCH_EXPIRY. -/

namespace Sys2Proof.Machine

/-- A PLANT port is LIVE (R47). -/
def State.plantLive (s : State) : Bool :=
  portIds.any fun p => (s.port p).profile = .plant && (s.port p).state = .live

/-- FALLBACK_CLEAR (R51). -/
def execFallbackClear (p : PortId) (tag : Nat) (s : State) : Host.Outcome State Fault Refusal :=
  .next (s.request p tag 0x17 .openLive fun s =>
    if s.plantLive then answerOk (if s.mode = .fallback then { s with clearMark := true } else s) []
    else answerCode s .notReady)

/-- POST_OFFER (R43). -/
def execPostOffer (p : PortId) (tag mode f cmin cmax rank ramp discharge charge : Nat) (s : State) :
    Host.Outcome State Fault Refusal :=
  .next (s.request p tag 0x20 .plant fun s =>
    match offerOf mode f cmin cmax rank ramp discharge charge with
    | some o => answerOk (s.setOffer p (some o)) o.bytes
    | none => answerCode s .unknown)

/-- WITHDRAW_OFFER (R44). -/
def execWithdrawOffer (p : PortId) (tag : Nat) (s : State) : Host.Outcome State Fault Refusal :=
  .next (s.request p tag 0x21 .plant fun s =>
    match s.offer p with
    | some _ => answerOk (s.setOffer p none) []
    | none => answerCode s .none)

/-- The mode that an expiry reaches (R47, step 1). -/
def State.modeAtExpiry (s : State) : NetMode :=
  match s.mode with
  | .starting => if s.plantLive then .run else .starting
  | .run => if s.plantLive then .run else .fallback
  | .fallback => if s.clearMark ∧ s.plantLive then .run else .fallback

/-- The record of an expiry, but for what its mode decides (R39, R60). -/
def State.recordBase (s : State) (mode : NetMode) : Record where
  sequence := (s.sequence + 1) % 65536
  time := s.clock / ticksPerSecond
  mode := mode
  status := .balanced
  demand := s.demand
  adjusted := adjustedDemand s.demand s.params.loss
  flow := s.networkFlow
  setpoint := s.setpoint
  unmet := 0
  incomplete := 0 < s.excluded
  dpBlind := s.reference.isEmpty
  live := s.countIn .live
  stale := s.countIn .stale
  excluded := s.excluded
  shares := []

/-- The record of a dispatch computed in FALLBACK (R50). -/
def State.fallbackRecord (s : State) : Record :=
  { s.recordBase .fallback with status := .fallback, unmet := adjustedDemand s.demand s.params.loss }

/-- The record of a dispatch computed in RUN, with the setpoint already reset (R53 to R60). -/
def State.runRecord (s : State) : Record :=
  let base := s.recordBase .run
  let parts := s.parts
  let a := allocate parts base.adjusted s.previousShare
  let u := a.unmet base.adjusted
  { base with status := statusFromUnmet u, unmet := u, shares := withFlow (a.shares parts) base.flow }

/-- A record is published (R61). -/
def State.publish (s : State) (r : Record) : State :=
  ({ s with sequence := r.sequence, previous := s.current, current := some r } : State).raiseDispatch

/-- The network enters FALLBACK (R49, steps 1 to 3). -/
def State.enterFallback (s : State) : State :=
  (({ s with mode := .fallback, clearMark := false } : State).raiseAll .fallback).fallbackRelease

/-- One dispatch (R47): the mode is judged, and the rest of the dispatch computed in the mode reached. -/
def State.dispatchOnce (s : State) : State :=
  match s.modeAtExpiry with
  | .starting => s
  | .run =>
    let s1 : State := { s with mode := .run, clearMark := false, setpoint := s.resetSetpoint }
    s1.publish s1.runRecord
  | .fallback =>
    let s1 := if s.mode = .fallback then { s with clearMark := false } else s.enterFallback
    s1.publish s1.fallbackRecord

/-- DISPATCH_EXPIRY (R46, R47): one dispatch, and the timer starts its next period. -/
def execDispatchExpiry (s : State) : Host.Outcome State Fault Refusal :=
  if s.powered then
    let s1 := s.await s.dispatchDue
    .next { s1.dispatchOnce with dispatchDue := s1.clock + s1.params.dispatchPeriod * ticksPerSecond }
  else .next s

end Sys2Proof.Machine
end

