-- ==== Sys2Proof/Machine/TrunkControl.lean ====
section
/-! DEFINITION. The trunk requests TRUNK_START, TRUNK_STOP, TRUNK_RESUME and WRITE_SLOT, and the line supervision (chapters 5
and 6). -/

namespace Sys2Proof.Machine

/-- A trunk becomes RUNNING with its transmitter enabled and its fault record cleared (R92, R95). -/
def Trunk.run (x : Trunk) : Trunk := { x with state := .running, txEnabled := true, fault := none, slot := none }

/-- TRUNK START's own rule, by the trunk's state (R92). -/
def State.carryStart (s : State) (t : TrunkId) : Carried :=
  match (s.trunk t).state with
  | .stopped =>
    if s.scheduleEmpty t then answerCode s .empty
    else answerOk (s.modifyTrunk t fun x => { x.run with rate := s.params.rateOf t, pointer := none }) []
  | .running => answerOk s []
  | .stopping => answerCode s .notReady
  | .halted => answerCode s .notReady

/-- A request that names one trunk: any other trunk than A or B is refused BAD_INDEX (R183). -/
def onTrunk (s : State) (trunk : Nat) (rule : State → TrunkId → Carried) : Carried :=
  match trunkOf trunk with
  | some t => rule s t
  | none => answerCode s .badIndex

/-- TRUNK_START (R92). -/
def execTrunkStart (p : PortId) (tag trunk : Nat) (s : State) : Host.Outcome State Fault Refusal :=
  .next (s.request p tag 0x34 .operator fun s => onTrunk s trunk State.carryStart)

/-- TRUNK STOP's own rule, by the trunk's state (R93). -/
def State.carryStop (s : State) (t : TrunkId) : Carried :=
  match (s.trunk t).state with
  | .running =>
    if (s.trunk t).exchange.isSome then answerOk (s.modifyTrunk t fun x => { x with state := .stopping }) []
    else answerOk (s.enterStopped t) []
  | .halted => answerOk (s.enterStopped t) []
  | .stopping => answerOk s []
  | .stopped => answerOk s []

/-- TRUNK_STOP (R93). -/
def execTrunkStop (p : PortId) (tag trunk : Nat) (s : State) : Host.Outcome State Fault Refusal :=
  .next (s.request p tag 0x35 .operator fun s => onTrunk s trunk State.carryStop)

/-- TRUNK RESUME's own rule, by the trunk's state (R95): the scheduler goes on from the pointer. -/
def State.carryResume (s : State) (t : TrunkId) : Carried :=
  match (s.trunk t).state with
  | .halted =>
    if s.scheduleEmpty t then answerCode s .empty else answerOk (s.modifyTrunk t (·.run)) []
  | .stopped => answerCode s .none
  | .running => answerCode s .none
  | .stopping => answerCode s .none

/-- TRUNK_RESUME (R95). -/
def execTrunkResume (p : PortId) (tag trunk : Nat) (s : State) : Host.Outcome State Fault Refusal :=
  .next (s.request p tag 0x36 .operator fun s => onTrunk s trunk State.carryResume)

/-- WRITE SLOT's own rule (R105). -/
def State.carryWriteSlot (s : State) (trunk entry rule index length : Nat) : Carried :=
  match trunkOf trunk, entryOf entry with
  | some t, some i =>
    match ruleOperand rule index with
    | .unknownRule => answerCode s .unknown
    | .badIndex => answerCode s .badIndex
    | .rule r =>
      let e : SlotEntry := { rule := r, length := slotLength r length }
      answerOk (s.setSlotEntry t i e) e.bytes
  | _, _ => answerCode s .badIndex

/-- WRITE_SLOT (R105). -/
def execWriteSlot (p : PortId) (tag trunk entry rule index length : Nat) (s : State) : Host.Outcome State Fault Refusal :=
  .next (s.request p tag 0x31 .fourWrites fun s => s.carryWriteSlot trunk entry rule index length)

/-! ## Line supervision -/

/-- The kind of the frame in flight: that of the exchange in flight, unless it is withheld and no frame is on the line
(R83, R99). -/
def Trunk.frameInFlight (x : Trunk) : Option FrameKind :=
  match x.exchange with
  | some e => if e.withheld then none else some e.kind.frame
  | none => none

/-- TX_STUCK (R96): watched while the transmitter is enabled. A STOPPED trunk stays STOPPED, with its transmitter disabled
and the fault in its record; any other halts. -/
def execTxStuck (t : TrunkId) (s : State) : Host.Outcome State Fault Refusal :=
  if s.powered ∧ (s.trunk t).txEnabled then
    match (s.trunk t).state with
    | .stopped =>
      .next ((s.modifyTrunk t (·.faulted { kind := .txStuck, at_ := s.clock, entry := none, frame := none })).raiseAll .trunk)
    | .running | .stopping | .halted => .next (s.halt t .txStuck (s.trunk t).frameInFlight)
  else .next s

/-- The interface is sending: a request has begun on the line and its last byte has not been read back. -/
def Trunk.isSending (x : Trunk) : Bool :=
  match x.exchange with
  | some e => !e.withheld && e.sentAt.isNone
  | none => false

/-- ECHO_LOST (R97): judged on the bytes the interface sends, the last one until it has been read back. -/
def execEchoLost (t : TrunkId) (s : State) : Host.Outcome State Fault Refusal :=
  if s.powered ∧ (s.trunk t).isSending then .next (s.halt t .echoLost (s.trunk t).frameInFlight) else .next s

/-- The line-held mark is set; an exchange under way is marked disturbed (R98, R99). -/
def Trunk.markHeld (x : Trunk) : Trunk :=
  { x with lineHeld := true, exchange := x.exchange.map fun e => { e with disturbed := true } }

/-- LINE_HELD_SET (R98): watched while the module is not sending. -/
def execLineHeldSet (t : TrunkId) (s : State) : Host.Outcome State Fault Refusal :=
  if s.powered ∧ (s.trunk t).lineHeld = false ∧ (s.trunk t).isSending = false then
    .next ((s.modifyTrunk t (·.markHeld)).raiseAll .trunk)
  else .next s

/-- LINE_HELD_CLEARED (R98). -/
def execLineHeldCleared (t : TrunkId) (s : State) : Host.Outcome State Fault Refusal :=
  if s.powered ∧ (s.trunk t).lineHeld then
    .next ((s.modifyTrunk t fun x => { x with lineHeld := false }).raiseAll .trunk)
  else .next s

end Sys2Proof.Machine
end

