-- ==== Sys2Proof/Machine/Scheduler.lean ====
section
/-! DEFINITION. The Sweep Scheduler (chapter 6): the choice of a slot's entry and frame, SLOT_START and REQUEST_SENT. -/

namespace Sys2Proof.Machine

/-! ## Request frames (R182) -/

/-- A trunk frame: sync byte, body, CRC-8 over the body. -/
def trunkFrame (body : List Byte) : List Byte := 0xA7#8 :: body ++ [crc8 body]

def scanRequest (address : Nat) : List Byte := trunkFrame [byte address, 0x01]

def pairRequest (address : Nat) : List Byte := trunkFrame [byte address, 0x02]

def commandRequest (address : Nat) (item : Item) (value : Option Nat) : List Byte :=
  trunkFrame ([byte address, 0x03, byte item.code] ++ opt2 value)

def rollcallRequest : List Byte := trunkFrame [byte 63, 0x04]

/-! ## The choice of an entry (R107) -/

/-- The entry is nonzero (R104). -/
def nonzero (schedule : Schedule) (i : EntryIndex) : Bool := (schedule.get i).length != 0

/-- The nonzero entry with the lowest index at or above a number. -/
def firstFrom (schedule : Schedule) (n : Nat) : Option EntryIndex :=
  (List.finRange 96).find? fun i => n ≤ i.val && nonzero schedule i

/-- The entry of the next slot, and whether it is reached by a wrap (R107). -/
def nextEntry (schedule : Schedule) (pointer : Option EntryIndex) : Option (EntryIndex × Bool) :=
  match pointer with
  | none => (firstFrom schedule 0).map fun i => (i, false)
  | some k =>
    match firstFrom schedule (k.val + 1) with
    | some i => some (i, false)
    | none => (firstFrom schedule 0).map fun i => (i, true)

/-- The scheduler's own record when a slot takes an entry (R107): a wrap counts the sweep and closes its mismatch record; a new
pass clears the sweep-mismatch mark alone. -/
def Trunk.advance (x : Trunk) (k : EntryIndex) (wrapped : Bool) : Trunk :=
  { x with
    pointer := some k
    sweeps := if wrapped then (x.sweeps + 1) % 4294967296 else x.sweeps
    lastMismatch := if wrapped ∧ x.sweepMismatch = false then none else x.lastMismatch
    sweepMismatch := if wrapped ∨ x.pointer.isNone then false else x.sweepMismatch }

/-- A mismatch at an entry (R116). -/
def State.mismatch (s : State) (t : TrunkId) (k : EntryIndex) : State :=
  let s1 := s.modifyTrunk t fun x => { x with sweepMismatch := true, lastMismatch := some k }
  if (s.trunk t).lastMismatch = some k then s1 else s1.raiseAll .trunk

/-! ## The frame of a slot -/

/-- An exchange begins with its slot; it is withheld where the line is held (R99). -/
def State.beginExchange (s : State) (t : TrunkId) (kind : ExchangeKind) (address : Nat) (request : List Byte) : State :=
  s.modifyTrunk t fun x =>
    { x with
      exchange := some
        { kind := kind
          address := address
          request := request
          withheld := x.lineHeld
          startAt := s.clock
          sentAt := none
          heard := []
          disturbed := false } }

/-- The stamp of a station now (R7). -/
def State.stampOf (s : State) (l : Station) : Stamp := { index := l, generation := (s.image l).generation }

/-- The station is enabled on the trunk. -/
def State.boundOn (s : State) (t : TrunkId) (l : Station) : Bool := (s.map l).enabled && (s.map l).trunk == t

/-- A slot that reads one station (R109). -/
def State.scanSlot (s : State) (t : TrunkId) (k : EntryIndex) (l : Station) : State :=
  if s.boundOn t l then
    if (s.map l).twin then s.mismatch t k
    else s.beginExchange t (.scan (s.stampOf l)) (s.map l).address (scanRequest (s.map l).address)
  else s

/-- The TWIN_TAIL that is the next nonzero entry above a head, if that entry is one (R110). -/
def tailOf (schedule : Schedule) (k : EntryIndex) : Option EntryIndex :=
  match firstFrom schedule (k.val + 1) with
  | some i => if (schedule.get i).rule = .twinTail then some i else none
  | none => none

/-- The tail is consumed by its head's pair slot: the slot is longer by its length, and the pointer moves on to it (R110). -/
def Trunk.consumeTail (x : Trunk) (i : EntryIndex) (length : Nat) : Trunk :=
  { x with
    pointer := some i
    slot := x.slot.map fun sl => { sl with length := sl.length + length } }

/-- A slot that reads a twin (R110, R111). -/
def State.headSlot (s : State) (t : TrunkId) (k : EntryIndex) (l : Station) : State :=
  if s.boundOn t l then
    let a := (s.map l).address
    if (s.map l).twin then
      match tailOf (s.schedule t) k with
      | some i =>
        (s.modifyTrunk t (·.consumeTail i ((s.schedule t).get i).length)).beginExchange t (.pair (s.stampOf l)) a
          (pairRequest a)
      | none => (s.beginExchange t (.headScan (s.stampOf l)) a (scanRequest a)).mismatch t k
    else s.mismatch t k
  else s

/-- The entry is the oldest one that may be sent: waiting, and its station not LOST (R122). -/
def State.mayBeSent (s : State) (e : CommandEntry) : Bool := e.waiting && (s.image e.index).state != .lost

/-- The head of a trunk's queue: the entry in flight, or the oldest waiting entry whose station is not LOST (R122). -/
def State.head (s : State) (t : TrunkId) : Option CommandEntry :=
  match s.inFlight t with
  | some e => some e
  | none => (s.queue t).find? s.mayBeSent

/-- The value that a half receives (R123): a twin's CAP is split, the even half's share rounded up. -/
def halfValue (item : Item) (value : Option Nat) (twin odd : Bool) : Option Nat :=
  match item, value with
  | .cap, some v => if twin then (if odd then some (v / 2) else some ((v + 1) / 2)) else some v
  | .hold, some v => some v
  | .poll, _ => none
  | _, none => none

/-- The stamp taken when a head is sent (R123). -/
def State.commandStamp (s : State) (l : Station) : CommandStamp :=
  { index := l, generation := (s.image l).generation, address := (s.map l).address }

/-- The head of the queue is sent (R123): a waiting head is stamped and marked in flight, and its frame goes to the station or
the twin's even half; the head of a twin whose even half is done goes to its odd half, addressed from the stamp. -/
def State.commandSlot (s : State) (t : TrunkId) (e : CommandEntry) : State :=
  match e.stamp with
  | none =>
    let st := s.commandStamp e.index
    (s.setQueue t (replaceFirst (s.queue t) s.mayBeSent { e with stamp := some st })).beginExchange t (.command e.item)
      st.address (commandRequest st.address e.item (halfValue e.item e.value (s.map e.index).twin false))
  | some st =>
    let a := if e.evenDone then st.address + 1 else st.address
    s.beginExchange t (.command e.item) a
      (commandRequest a e.item (halfValue e.item e.value (e.evenDone || (s.map e.index).twin) e.evenDone))

/-- The entry that makes a slot a command slot: the head, where the last-frame-was-command mark is clear (R114). -/
def State.commandHead (s : State) (t : TrunkId) : Option CommandEntry :=
  if (s.trunk t).commandMark then none else s.head t

/-- What a slot does, by its entry's rule (R109 to R115). -/
def State.slotFrame (s : State) (t : TrunkId) (k : EntryIndex) (rule : SlotRule) : State :=
  match rule with
  | .scan l => s.scanSlot t k l
  | .twinHead l => s.headSlot t k l
  | .twinTail => s
  | .cmdOrScan l =>
    match s.commandHead t with
    | some e => s.commandSlot t e
    | none => s.scanSlot t k l
  | .cmdOrQuiet =>
    match s.commandHead t with
    | some e => s.commandSlot t e
    | none => s
  | .rollcall => s.beginExchange t .rollcall 63 rollcallRequest
  | .quiet => s

/-- The tick at which a trunk's slot has run its length; the first slot of a trunk starts at once (R108). -/
def Trunk.slotDue (x : Trunk) : Nat :=
  match x.slot with
  | some sl => sl.startAt + sl.length * x.bitTicks
  | none => 0

/-- The next slot starts with an entry (R107). -/
def State.startSlot (s : State) (t : TrunkId) (k : EntryIndex) (wrapped : Bool) : State :=
  let e := (s.schedule t).get k
  (s.modifyTrunk t fun x =>
    { x.advance k wrapped with
      slot := some { entry := k, startAt := s.clock, length := e.length } }).slotFrame t k e.rule

/-- SLOT_START (R107, R108): on a RUNNING trunk, when the previous slot's length has run out and no exchange is in flight. A
schedule without a nonzero entry stops the trunk (R106). Where an exchange's end and the next slot start fall together R117
leaves the order open: DESIGN CHOICE, the model takes the result and the POLL it asks for before the slot start, since the
exchange's end hands them on in the same step (assumption 31). -/
def execSlotStart (t : TrunkId) (s : State) : Host.Outcome State Fault Refusal :=
  if s.powered ∧ (s.trunk t).state = .running ∧ (s.trunk t).exchange.isNone then
    let s1 := s.await (s.trunk t).slotDue
    match nextEntry (s1.schedule t) (s1.trunk t).pointer with
    | some (k, wrapped) => .next (s1.startSlot t k wrapped)
    | none => .next ((s1.enterStopped t).modifyTrunk t fun x => { x with pointer := none })
  else .next s

/-- The end of a request, that of its last stop bit: ten bit-times for each byte from the start of its slot (R85, R108). -/
def Exchange.requestEnd (x : Exchange) (bitTicks : Nat) : Nat := x.startAt + 10 * x.request.length * bitTicks

/-- The trunk once its request counts as sent: the reply windows count from the end of the request, and the mark holds the
frame's kind (R85, R113). -/
def Trunk.requestSent (x : Trunk) (e : Exchange) : Trunk :=
  { x with
    exchange := some { e with sentAt := some (e.requestEnd x.bitTicks) }
    commandMark := e.kind.isCommand }

/-- REQUEST_SENT (R91, R97, R113): the last byte of a request that is not withheld has been read back, at its end or up to 2
bit-times later (assumption 33); until then ECHO_LOST may find it missing. -/
def execRequestSent (t : TrunkId) (s : State) : Host.Outcome State Fault Refusal :=
  match (s.trunk t).exchange with
  | some e =>
    if s.powered ∧ e.withheld = false ∧ e.sentAt = none then
      let s1 := s.await (e.requestEnd (s.trunk t).bitTicks)
      .next (s1.modifyTrunk t (·.requestSent e))
    else .next s
  | none => .next s

end Sys2Proof.Machine
end

