-- ==== Sys2Proof/Machine/Frames.lean ====
section
/-! DEFINITION. What the interface makes of the bytes it hears (chapter 5): frames, reply windows, the three checks, the
roll-call windows; and TRUNK_BYTE_RECEIVED. -/

namespace Sys2Proof.Machine

/-! ## Frames -/

/-- A frame heard: from the start bit of its first byte to the end of its last stop bit (R85). -/
structure HeardFrame where
  start  : Nat
  endAt  : Nat
  bytes  : List Byte
  /-- Every stop bit was recessive. -/
  stopsOk : Bool
  deriving DecidableEq, Repr

/-- A byte that begins a frame. -/
def HeardByte.frame (b : HeardByte) (bt : Nat) : HeardFrame :=
  { start := b.start, endAt := b.start + 10 * bt, bytes := [b.value], stopsOk := b.stopOk }

/-- The frames heard so far, newest first, with one more byte: it extends the newest frame unless a gap of 16 bit-times or more
has ended it, or it has reached 255 bytes (R85). -/
def addByte (bt : Nat) (frames : List HeardFrame) (b : HeardByte) : List HeardFrame :=
  match frames with
  | f :: fs =>
    if f.bytes.length < 255 ∧ b.start < f.endAt + 16 * bt then
      { f with endAt := b.start + 10 * bt, bytes := f.bytes ++ [b.value], stopsOk := f.stopsOk && b.stopOk } :: fs
    else b.frame bt :: f :: fs
  | [] => [b.frame bt]

/-- The frames heard, in order of their beginning. -/
def framesOf (bt : Nat) (heard : List HeardByte) : List HeardFrame := (heard.foldl (addByte bt) []).reverse

/-- The first frame that begins in a window of so many bit-times after the end of the request, both ends included. -/
def Exchange.frameIn (x : Exchange) (bt sent lo hi : Nat) : Option HeardFrame :=
  (framesOf bt x.heard).find? fun f => sent + lo * bt ≤ f.start && f.start ≤ sent + hi * bt

/-- A frame is closed 16 bit-times after it ends (R85). -/
def HeardFrame.closedAt (f : HeardFrame) (bt : Nat) : Nat := f.endAt + 16 * bt

/-- The reply to a SCAN or a command: the first frame that begins within 48 bit-times of the end of the request (R87). -/
def Exchange.reply (x : Exchange) (bt sent : Nat) : Option HeardFrame := x.frameIn bt sent 0 48

/-- The even half's reply (R88): the first frame in the even window, unless it is still being received when the odd window
opens. -/
def Exchange.evenReply (x : Exchange) (bt sent : Nat) : Option HeardFrame :=
  (x.frameIn bt sent 0 48).filter fun f => f.endAt ≤ sent + 224 * bt

/-- The odd half's reply (R88). -/
def Exchange.oddReply (x : Exchange) (bt sent : Nat) : Option HeardFrame := x.frameIn bt sent 224 256

/-! ## The judgement of a reply (R90, R182) -/

/-- What a frame is judged to be. -/
inductive Judged (α : Type) where
  | accepted (a : α)
  | wrongLength
  | badCheck
  | wrongAddress
  deriving DecidableEq, Repr

/-- The judgement of a reply: length, check byte, identity. The identity is judged by `identify` on the bytes before the check
byte; a frame with a framing error never passes it (R85). -/
def judgeReply {α : Type} (length : Nat) (identify : List Byte → Option α) (f : HeardFrame) : Judged α :=
  if f.bytes.length ≠ length then .wrongLength
  else if f.bytes.getLast? ≠ some (crc8 f.bytes.dropLast.tail) then .badCheck
  else
    match identify f.bytes.dropLast with
    | some a => if f.stopsOk then .accepted a else .wrongAddress
    | none => .wrongAddress

/-- The frame fails its check byte. -/
def Judged.isBadCheck {α : Type} : Judged α → Bool
  | .badCheck => true
  | .accepted _ => false
  | .wrongLength => false
  | .wrongAddress => false

/-- A data reply's status and values, as the station sent them (R86). -/
structure DataReply where
  status : StatusSet
  q      : Nat
  ts     : Nat
  tr     : Nat
  v      : Nat
  dp     : Nat
  deriving DecidableEq, Repr

/-- The identity of a data reply: sync, address, kind DATA, the request answered (R90, R182). -/
def identifyData (address : Nat) (request : Byte) : List Byte → Option DataReply
  | [sync, a, kind, r, st, q1, q0, ts1, ts0, tr1, tr0, v1, v0, d1, d0] =>
    if sync = 0xA7#8 ∧ a = byte address ∧ kind = 0x11#8 ∧ r = request then
      some { status := statusOf st, q := number2 q1 q0, ts := number2 ts1 ts0, tr := number2 tr1 tr0, v := number2 v1 v0,
             dp := number2 d1 d0 }
    else none
  | _ => none

/-- A command reply: ACK or NAK, and the status it carries. Any NAK refuses, whatever its reason (R182). -/
structure CommandReply where
  ack    : Bool
  status : StatusSet
  deriving DecidableEq, Repr

/-- The identity of a command reply: sync, address, kind ACK or NAK, the item answered (R90, R182). -/
def identifyCommand (address : Nat) (item : Item) : List Byte → Option CommandReply
  | [sync, a, kind, i, _reason, st] =>
    if sync = 0xA7#8 ∧ a = byte address ∧ (kind = 0x12#8 ∨ kind = 0x13#8) ∧ i = byte item.code then
      some { ack := kind = 0x12#8, status := statusOf st }
    else none
  | _ => none

/-- A frame judged as the data reply of a station. -/
def judgeData (address : Nat) (request : Byte) (f : HeardFrame) : Judged DataReply :=
  judgeReply 16 (identifyData address request) f

/-- A frame judged as the reply to a command. -/
def judgeCommand (address : Nat) (item : Item) (f : HeardFrame) : Judged CommandReply :=
  judgeReply 7 (identifyCommand address item) f

/-! ## Results for the Station Table -/

/-- A result of an exchange with a station, or with one half of a twin (R7). -/
inductive StationResult where
  | good (r : Reading) (status : StatusSet)
  | sensorFault (status : StatusSet)
  | miss
  deriving DecidableEq, Repr

/-- A reported value above its range is replaced by the top of the range (R5). -/
def DataReply.reading (d : DataReply) (at_ : Nat) : Reading where
  q := min d.q 4000
  ts := min d.ts 4000
  tr := min d.tr 4000
  v := min d.v 1000
  dp := (absentAt65535 d.dp).map fun x => min x 6000
  clamped := 4000 < d.q || 4000 < d.ts || 4000 < d.tr || 1000 < d.v || (d.dp != 65535 && 6000 < d.dp)
  goodAt := at_

/-- The result of a judged data reply: good, or sensor-fault where its status shows SENSOR_FAULT, or a miss (R7). -/
def stationResult (f : HeardFrame) : Judged DataReply → StationResult
  | .accepted d => if d.status.sensorFault then .sensorFault d.status else .good (d.reading f.endAt) d.status
  | .wrongLength => .miss
  | .badCheck => .miss
  | .wrongAddress => .miss

/-- The weighted mean of R24, rounded half up; the plain mean where there is no flow. -/
def mixed (qa qb xa xb : Nat) : Nat :=
  if 0 < qa + qb then (2 * (qa * xa + qb * xb) + (qa + qb)) / (2 * (qa + qb)) else (xa + xb + 1) / 2

/-- The reading of a twin (R24); its time is that of the odd half's reply (R8). -/
def combineReadings (a b : Reading) : Reading where
  q := a.q + b.q
  ts := mixed a.q b.q a.ts b.ts
  tr := mixed a.q b.q a.tr b.tr
  v := max a.v b.v
  dp := match a.dp with
    | some x => some x
    | none => b.dp
  clamped := a.clamped || b.clamped
  goodAt := b.goodAt

/-- The two half-results of a twin made into one (R23). -/
def combineResults : StationResult → StationResult → StationResult
  | .good a sa, .good b sb => .good (combineReadings a b) (sa ||| sb)
  | .good _ sa, .sensorFault sb => .sensorFault (sa ||| sb)
  | .sensorFault sa, .good _ sb => .sensorFault (sa ||| sb)
  | .sensorFault sa, .sensorFault sb => .sensorFault (sa ||| sb)
  | .miss, _ => .miss
  | _, .miss => .miss

/-! ## Roll-call answers -/

/-- The bytes whose start bit began in the window of an address (R89). -/
def Exchange.inWindow (x : Exchange) (bt sent address : Nat) : List HeardByte :=
  x.heard.filter fun b =>
    sent + (48 + 12 * (address - 1)) * bt ≤ b.start && b.start < sent + (48 + 12 * address) * bt

/-- The answer of an address (R89, R182). -/
def Exchange.answer (x : Exchange) (bt sent address : Nat) : Answer :=
  match x.inWindow bt sent address with
  | [] => .absent
  | [b] =>
    if b.stopOk ∧ b.value = 0x6A#8 then .present
    else if b.stopOk ∧ b.value = 0x6B#8 then .presentAttention
    else .clash
  | _ :: _ :: _ => .clash

/-! ## TRUNK_BYTE_RECEIVED -/

/-- The end of the last byte heard in an exchange: no byte begins before it, nor before the end of the request. -/
def Exchange.lineFree (x : Exchange) (bt sent : Nat) : Nat :=
  match x.heard.getLast? with
  | some b => b.start + 10 * bt
  | none => sent

/-- The end of the request (R85), where the exchange hears what follows it: one whose request has been read back, and one whose
request has ended and whose last byte is still being read back (R97). A withheld exchange hears nothing (R99). -/
def Exchange.hearsFrom (x : Exchange) (bt clock : Nat) : Option Nat :=
  if x.withheld then none
  else
    match x.sentAt with
    | some sent => some sent
    | none => if x.requestEnd bt ≤ clock then some (x.requestEnd bt) else none

/-- An exchange with one more byte heard. -/
def Exchange.hear (x : Exchange) (b : HeardByte) : Exchange := { x with heard := x.heard ++ [b] }

/-- TRUNK_BYTE_RECEIVED (R85, R87 to R89): a byte is heard by the exchange in flight once its request has ended; any other byte
is discarded (R91, R99). -/
def execTrunkByteReceived (t : TrunkId) (b : Byte) (stopOk : Bool) (s : State) : Host.Outcome State Fault Refusal :=
  match (s.trunk t).exchange with
  | some x =>
    match x.hearsFrom (s.trunk t).bitTicks s.clock with
    | some sent =>
      if s.powered then
        let s1 := s.await (x.lineFree (s.trunk t).bitTicks sent)
        .next (s1.modifyTrunk t fun y =>
          { y with exchange := some (x.hear { start := s1.clock, value := b, stopOk := stopOk }) })
      else .next s
    | none => .next s
  | none => .next s

end Sys2Proof.Machine
end

