-- ==== Sys2Proof/Machine/ExchangeEnd.lean ====
section
/-! DEFINITION. How an exchange ends and what its result does: REPLY_TIMEOUT, REPLY_CLOSED, PAIR_EXCHANGE_END, ROLLCALL_END and
WITHHELD_EXCHANGE_END (chapters 1, 5, 6, 7 and 8). -/

namespace Sys2Proof.Machine

/-! ## Results at the Station Table -/

/-- A POLL is asked for where the status shows ATTENTION (R17). -/
def State.pollIfAttention (s : State) (l : Station) (status : StatusSet) : State :=
  if status.attention then s.offerPoll l else s

/-- A good reply (R8): the reading and the status are replaced, the miss count is 0, the entry is LIVE; leaving LOST raises
STATION (R16). -/
def State.goodReply (s : State) (l : Station) (r : Reading) (status : StatusSet) : State :=
  let s1 := s.modifyImage l fun x => { x with reading := some r, status := some status, misses := 0, state := .live }
  (if (s.image l).state = .lost then s1.raiseAll .station else s1).pollIfAttention l status

/-- A sensor-fault reply (R10): the miss count is 0 and the status replaced, and nothing else. -/
def State.sensorFaultReply (s : State) (l : Station) (status : StatusSet) : State :=
  (s.modifyImage l fun x => { x with status := some status, misses := 0 }).pollIfAttention l status

/-- The station is in a state from which misses take it to LOST (R11). -/
def StationState.losable : StationState → Bool
  | .waiting => true
  | .live => true
  | .stale => true
  | .lost => false
  | .unbound => false

/-- A miss (R11): the miss count stops at 15, and at the fault limit the entry enters LOST. -/
def State.stationMiss (s : State) (l : Station) : State :=
  let n := min 15 ((s.image l).misses + 1)
  let s1 := s.modifyImage l fun x => { x with misses := n }
  if (s.image l).state.losable ∧ s.params.faultMisses ≤ n then s1.enterLost l else s1

/-- A result comes to the Station Table with its stamp (R7): under an older generation it is discarded. -/
def State.tableResult (s : State) (stamp : Stamp) (r : StationResult) : State :=
  if (s.image stamp.index).generation = stamp.generation ∧ (s.image stamp.index).state ≠ .unbound then
    match r with
    | .good reading status => s.goodReply stamp.index reading status
    | .sensorFault status => s.sensorFaultReply stamp.index status
    | .miss => s.stationMiss stamp.index
  else s

/-! ## Results at the Command Queue -/

/-- A POLL's status is stored (R18); an UNBOUND entry holds none (R4). -/
def State.storePoll (s : State) (e : CommandEntry) (status : StatusSet) : State :=
  match e.item with
  | .poll =>
    if (s.image e.index).state = .unbound then s
    else s.modifyImage e.index fun x => { x with status := some status }
  | .cap => s
  | .hold => s

/-- A miss of a command exchange (R125). Where a newer waiting entry of the key stands behind the entry, R120's one waiting
entry of a key is kept as R128 keeps it: assumption 28. -/
def State.chargeMiss (s : State) (t : TrunkId) (e : CommandEntry) : State :=
  let e1 := { e with attempts := e.attempts + 1 }
  if 3 ≤ e1.attempts then s.endInFlight t e .noReply
  else if e.evenDone then s.setInFlight t e1
  else s.waitAgain t e1

/-- The status a twin POLL stores at its odd half: both halves' (R126). -/
def CommandEntry.bothStatus (e : CommandEntry) (status : StatusSet) : StatusSet :=
  match e.evenStatus with
  | some even => even ||| status
  | none => status

/-- The even half of a twin has acknowledged (R126). -/
def CommandEntry.evenAcknowledged (e : CommandEntry) (status : StatusSet) : CommandEntry :=
  { e with
    evenDone := true
    attempts := 0
    evenStatus := match e.item with
      | .poll => some status
      | .cap => none
      | .hold => none }

/-- The reply to a single station's command, or to a twin's odd half, ends the entry DONE or REFUSED; a POLL's status is
stored first (R124, R126). -/
def State.commandEnds (s : State) (t : TrunkId) (e : CommandEntry) (r : CommandReply) : State :=
  (s.storePoll e (e.bothStatus r.status)).endInFlight t e (if r.ack then .done else .refused)

/-- A command's result under the current generation, or a miss where there is none (R124 to R126). -/
def State.commandTaken (s : State) (t : TrunkId) (e : CommandEntry) (r : Option CommandReply) : State :=
  match r with
  | none => s.chargeMiss t e
  | some r =>
    if e.evenDone = false ∧ (s.map e.index).twin then
      if r.ack then s.setInFlight t (e.evenAcknowledged r.status) else s.endInFlight t e .refused
    else s.commandEnds t e r

/-- The result of a command exchange comes to the queue's entry in flight (R124); a binding change that has overtaken it ends
it DROPPED (R127). -/
def State.commandResult (s : State) (t : TrunkId) (r : Option CommandReply) : State :=
  match s.inFlight t with
  | none => s
  | some e =>
    if (e.stamp.map (·.generation)) ≠ some (s.image e.index).generation then s.endInFlight t e .dropped
    else s.commandTaken t e r

/-! ## The end of an exchange -/

/-- After an exchange has handed its result on: a failed check halts the trunk with halt-on-check on (R100), and a STOPPING
trunk becomes STOPPED (R93). -/
def State.afterExchange (s : State) (t : TrunkId) (kind : ExchangeKind) (checkFailed : Bool) : State :=
  if checkFailed ∧ s.params.haltOnCheck t then s.halt t .check (some kind.frame)
  else if (s.trunk t).state = .stopping then s.enterStopped t
  else s

/-- The exchange is no longer in flight. -/
def State.clearExchange (s : State) (t : TrunkId) : State := s.modifyTrunk t fun x => { x with exchange := none }

/-- An exchange that hands on a miss, or misses (R87, R99): a withheld roll-call hands on nothing. -/
def State.handMiss (s : State) (t : TrunkId) : ExchangeKind → State
  | .scan stamp => s.tableResult stamp .miss
  | .headScan stamp => s.tableResult stamp .miss
  | .pair stamp => s.tableResult stamp .miss
  | .command _ => s.commandResult t none
  | .rollcall => s

/-- The exchange calls for one reply (R86). -/
def ExchangeKind.oneReply : ExchangeKind → Bool
  | .scan _ => true
  | .headScan _ => true
  | .command _ => true
  | .pair _ => false
  | .rollcall => false

/-- REPLY_TIMEOUT (R87): no reply has begun by 48 bit-times after the end of a SCAN or command request. -/
def execReplyTimeout (t : TrunkId) (s : State) : Host.Outcome State Fault Refusal :=
  match (s.trunk t).exchange with
  | some x =>
    match x.sentAt with
    | some sent =>
      let bt := (s.trunk t).bitTicks
      if s.powered ∧ x.withheld = false ∧ x.kind.oneReply ∧ (x.reply bt sent).isNone then
        let s1 := (s.await (sent + 48 * bt)).clearExchange t
        .next ((s1.handMiss t x.kind).afterExchange t x.kind false)
      else .next s
    | none => .next s
  | none => .next s

/-- A judged reply, if it is acceptable. -/
def Judged.toOption {α : Type} : Judged α → Option α
  | .accepted a => some a
  | .wrongLength => none
  | .badCheck => none
  | .wrongAddress => none

/-- The reply of a SCAN or command exchange is judged, and its result handed on (R90, R91). A TWIN_HEAD's SCAN hands on one
miss, whatever the even half answered (R111). -/
def State.handReply (s : State) (t : TrunkId) (x : Exchange) (f : HeardFrame) : State × Bool :=
  match x.kind with
  | .scan stamp =>
    let j := judgeData x.address 0x01 f
    (s.tableResult stamp (stationResult f j), j.isBadCheck)
  | .headScan stamp => (s.tableResult stamp .miss, (judgeData x.address 0x01 f).isBadCheck)
  | .command item =>
    let j := judgeCommand x.address item f
    (s.commandResult t j.toOption, j.isBadCheck)
  | .pair _ => (s, false)
  | .rollcall => (s, false)

/-- REPLY_CLOSED (R87): the reply of a SCAN or command exchange is closed by its gap. -/
def execReplyClosed (t : TrunkId) (s : State) : Host.Outcome State Fault Refusal :=
  match (s.trunk t).exchange with
  | some x =>
    match x.sentAt with
    | some sent =>
      let bt := (s.trunk t).bitTicks
      match x.reply bt sent with
      | some f =>
        if s.powered ∧ x.withheld = false ∧ x.kind.oneReply then
          let s1 := (s.await (f.closedAt bt)).clearExchange t
          let r := s1.handReply t x f
          .next (r.1.afterExchange t x.kind r.2)
        else .next s
      | none => .next s
    | none => .next s
  | none => .next s

/-- The result of one half of a pair, and whether its frame failed its check byte (R88, R90). -/
def halfResult (address : Nat) (f : Option HeardFrame) : StationResult × Bool :=
  match f with
  | some f =>
    let j := judgeData address 0x02 f
    (stationResult f j, j.isBadCheck)
  | none => (.miss, false)

/-- The tick at which a pair exchange ends (R88): when the later of its halves is settled. A half is settled when its frame is
closed, or when its window has passed with nothing begun in it. -/
def Exchange.pairDue (x : Exchange) (bt sent : Nat) : Nat :=
  let even := match x.frameIn bt sent 0 48 with
    | some f => f.closedAt bt
    | none => sent + 48 * bt
  let odd := match x.oddReply bt sent with
    | some f => f.closedAt bt
    | none => sent + 256 * bt
  max even odd

/-- PAIR_EXCHANGE_END (R88): both half-results go to the Station Table together, under one stamp. -/
def execPairExchangeEnd (t : TrunkId) (s : State) : Host.Outcome State Fault Refusal :=
  match (s.trunk t).exchange with
  | some x =>
    match x.sentAt, x.kind with
    | some sent, .pair stamp =>
      if s.powered ∧ x.withheld = false then
        let bt := (s.trunk t).bitTicks
        let s1 := (s.await (x.pairDue bt sent)).clearExchange t
        let even := halfResult x.address (x.evenReply bt sent)
        let odd := halfResult (x.address + 1) (x.oddReply bt sent)
        .next ((s1.tableResult stamp (combineResults even.1 odd.1)).afterExchange t x.kind (even.2 || odd.2))
      else .next s
    | _, _ => .next s
  | none => .next s

/-! ## Roll-calls -/

/-- The answers at one bound entry (R135): the clash mark is set or cleared, and a POLL offered where an address of its set
asked for attention. -/
def State.boundAnswers (answer : Nat → Answer) (t : TrunkId) (s : State) (l : Station) : State :=
  if s.boundOn t l then
    let answers := (s.map l).addresses.map answer
    let s1 := s.modifyImage l fun x => { x with clash := answers.contains .clash }
    if answers.contains .presentAttention then s1.offerPoll l else s1
  else s

/-- A candidate after a roll-call of its trunk that took place (R137). -/
def Candidate.answered (c : Candidate) : Answer → Candidate
  | .present => { c with seen := min 65535 (c.seen + 1), absences := 0, clash := false }
  | .presentAttention => { c with seen := min 65535 (c.seen + 1), absences := 0, clash := false }
  | .clash => { c with clash := true }
  | .absent => { c with absences := c.absences + 1, clash := false }

/-- The candidate list with the candidate at an address changed. -/
def updateCandidate (cs : List Candidate) (t : TrunkId) (address : Nat) (f : Candidate → Candidate) : List Candidate :=
  cs.map fun c => if c.trunk == t && c.address == address then f c else c

/-- A station heard at an unbound address: the answer is a presence. -/
def Answer.isPresence : Answer → Bool
  | .present => true
  | .presentAttention => true
  | .absent => false
  | .clash => false

/-- A new candidate, listed now (R137). -/
def State.newCandidate (s : State) (t : TrunkId) (address : Nat) : Candidate :=
  { trunk := t, address := address, firstSeen := s.clock, seen := 1, absences := 0, clash := false }

/-- The answer of one address at the Admission List (R137, R138), with the CANDIDATE flags of R144. -/
def State.admissionAnswer (answer : Nat → Answer) (t : TrunkId) (s : State) (address : Nat) : State :=
  if s.isBound t address ∨ (s.refused t).contains address then s
  else
    match s.candidates.find? fun c => c.trunk == t && c.address == address with
    | some c =>
      if 3 ≤ (c.answered (answer address)).absences then
        ({ s with
          candidates := s.candidates.filter fun d => !(d.trunk == t && d.address == address)
          overflow := false } : State).raiseCandidate
      else { s with candidates := updateCandidate s.candidates t address fun d => d.answered (answer address) }
    | none =>
      if (answer address).isPresence then
        if s.candidates.length < 8 then
          ({ s with candidates := s.candidates ++ [s.newCandidate t address] } : State).raiseCandidate
        else if s.overflow then s
        else ({ s with overflow := true } : State).raiseCandidate
      else s

/-- The addresses of stations, in ascending order. -/
def addresses : List Nat := (List.range 62).map (· + 1)

/-- The 62 answers go to the Station Table and to the Admission List (R134, R135, R137). -/
def State.rollcallAnswers (s : State) (t : TrunkId) (answer : Nat → Answer) : State :=
  addresses.foldl (State.admissionAnswer answer t) (stations.foldl (State.boundAnswers answer t) s)

/-- ROLLCALL_END (R89): the answers are handed on, unless the line was held at any moment of the roll-call (R99). -/
def execRollcallEnd (t : TrunkId) (s : State) : Host.Outcome State Fault Refusal :=
  match (s.trunk t).exchange with
  | some x =>
    match x.sentAt, x.kind with
    | some sent, .rollcall =>
      if s.powered ∧ x.withheld = false then
        let bt := (s.trunk t).bitTicks
        let s1 := (s.await (sent + 808 * bt)).clearExchange t
        .next ((if x.disturbed then s1 else s1.rollcallAnswers t (x.answer bt sent)).afterExchange t x.kind false)
      else .next s
    | _, _ => .next s
  | none => .next s

/-! ## Withheld exchanges -/

/-- The bit-times from the start of its slot to the end of a withheld exchange (R99). -/
def ExchangeKind.withheldLength : ExchangeKind → Nat
  | .scan _ => 40 + 48
  | .headScan _ => 40 + 48
  | .command _ => 70 + 48
  | .pair _ => 40 + 256
  | .rollcall => 848

/-- WITHHELD_EXCHANGE_END (R99). -/
def execWithheldExchangeEnd (t : TrunkId) (s : State) : Host.Outcome State Fault Refusal :=
  match (s.trunk t).exchange with
  | some x =>
    if s.powered ∧ x.withheld then
      let s1 := (s.await (x.startAt + x.kind.withheldLength * (s.trunk t).bitTicks)).clearExchange t
      .next ((s1.handMiss t x.kind).afterExchange t x.kind false)
    else .next s
  | none => .next s

end Sys2Proof.Machine
end

