-- ==== Sys2Proof/Machine/Reads.lean ====
section
/-! DEFINITION. The requests that read the module: STATUS and the reads. All but READ_OUTCOMES change nothing beyond the
answering of the port (sections 9.4 and 9.5). -/

namespace Sys2Proof.Machine

/-- STATUS (R154). -/
def execStatus (p : PortId) (tag : Nat) (s : State) : Host.Outcome State Fault Refusal :=
  .next (s.request p tag 0x04 .open fun s => answerOk s (s.statusBytes p))

/-- One whole record, or NONE (R62). -/
def answerRecord (s : State) (r : Option Record) : Carried :=
  match r with
  | some r => answerOk s r.bytes
  | none => answerCode s .none

/-- READ_DISPATCH (R62; the selector by R183). -/
def execReadDispatch (p : PortId) (tag selector : Nat) (s : State) : Host.Outcome State Fault Refusal :=
  .next (s.request p tag 0x10 .open fun s =>
    match selector with
    | 0 => answerRecord s s.current
    | 1 => answerRecord s s.previous
    | _ => answerCode s .unknown)

/-- The entries that a stride returns: first, first + step, …, up to `count` of them, none above L119 (R156). -/
def stride : Nat → Nat → Nat → List Station
  | 0, _, _ => []
  | count + 1, first, step =>
    match stationOf first with
    | some l => l :: stride count (first + step) step
    | none => []

/-- READ_IMAGE (R156). -/
def execReadImage (p : PortId) (tag first count step : Nat) (s : State) : Host.Outcome State Fault Refusal :=
  .next (s.request p tag 0x11 .open fun s =>
    if first < 120 then
      let ls := stride (clampNat count 1 8) first (clampNat step 1 16)
      answerOk s ([byte first, byte ls.length, byte (clampNat step 1 16)]
        ++ ls.flatMap fun l => imageRecord l (s.map l) (s.image l))
    else answerCode s .badIndex)

/-- READ_STATION (R155). -/
def execReadStation (p : PortId) (tag index : Nat) (s : State) : Host.Outcome State Fault Refusal :=
  .next (s.request p tag 0x12 .open fun s =>
    match stationOf index with
    | some l => answerOk s (stationBytes (s.map l) (s.image l) (s.limit l))
    | none => answerCode s .badIndex)

/-- READ_QUEUE (R133). -/
def execReadQueue (p : PortId) (tag trunk : Nat) (s : State) : Host.Outcome State Fault Refusal :=
  .next (s.request p tag 0x13 .open fun s =>
    match trunkOf trunk with
    | some t => answerOk s (byte (s.queue t).length :: (s.queue t).flatMap (·.bytes))
    | none => answerCode s .badIndex)

/-- READ_CANDIDATES (R143). -/
def execReadCandidates (p : PortId) (tag : Nat) (s : State) : Host.Outcome State Fault Refusal :=
  .next (s.request p tag 0x14 .open fun s => answerOk s s.candidateBytes)

/-- READ_OUTCOMES (R158): the list is returned, then emptied, and the overrun mark cleared. -/
def execReadOutcomes (p : PortId) (tag : Nat) (s : State) : Host.Outcome State Fault Refusal :=
  .next (s.request p tag 0x15 .open fun s =>
    let x := s.port p
    answerOk (s.modifyPort p fun x => { x with outcomes := [], overrun := false })
      ([markByte x.overrun, byte x.outcomes.length] ++ x.outcomes.flatMap (·.bytes)))

/-- The applied value of a parameter by its identifier, an off/on parameter as 0 or 1 (R152, R183). -/
def Params.read (x : Params) : Nat → Option Nat
  | 0x01 => some x.dispatchPeriod
  | 0x02 => some x.limiterPeriod
  | 0x03 => some x.staleAge
  | 0x04 => some x.holdLimit
  | 0x05 => some x.faultMisses
  | 0x06 => some x.loss
  | 0x07 => some x.sStart
  | 0x08 => some x.sMin
  | 0x09 => some x.sMax
  | 0x0A => some x.stepUp
  | 0x0B => some x.stepDown
  | 0x0C => some x.deadband
  | 0x0D => some x.dTmin
  | 0x0E => some x.hysteresis
  | 0x0F => some x.capfloor
  | 0x10 => some x.capstep
  | 0x11 => some x.rateA
  | 0x12 => some x.rateB
  | 0x13 => some x.haltOnCheckA.toNat
  | 0x14 => some x.haltOnCheckB.toNat
  | 0x15 => some x.autostart.toNat
  | _ => none

/-- An identifier and the parameter's applied value, three bytes (R183). -/
def paramBytes (identifier value : Nat) : List Byte := byte identifier :: be2 value

/-- READ_PARAM (R152). -/
def execReadParam (p : PortId) (tag identifier : Nat) (s : State) : Host.Outcome State Fault Refusal :=
  .next (s.request p tag 0x16 .open fun s =>
    match s.params.read identifier with
    | some v => answerOk s (paramBytes identifier v)
    | none => answerCode s .unknown)

end Sys2Proof.Machine
end

