-- ==== Sys2Proof/Machine/Table.lean ====
section
/-! DEFINITION. The requests that write the Station Table's map and overrides, and the Admission List's (chapters 1, 4, 7 and
8): WRITE_MAP, ADMIT, REJECT, FORGET, OVERRIDE, RELEASE, CANCEL; and the two reading timers. -/

namespace Sys2Proof.Machine

/-! ## WRITE_MAP -/

/-- A write is a binding change (R2). -/
def isBindingChange (old new : MapPart) : Bool :=
  old.enabled != new.enabled
    || (new.enabled && (old.trunk != new.trunk || old.address != new.address || old.twin != new.twin))

/-- A map part written to an entry (R2, R139). -/
def State.writeMap (s : State) (l : Station) (m : MapPart) : State :=
  (if isBindingChange (s.map l) m then s.bindingChange l m else s.setMap l m).removeBoundCandidates m

/-- The map part that a request's fields make, clamped (R2); the map flags in the places of R183. -/
def mapPartOf (t : TrunkId) (mapFlags address qc dpmin customerTag : Nat) : MapPart where
  enabled := mapFlags.testBit 0
  trunk := t
  address := address
  twin := mapFlags.testBit 1
  qc := min qc 8000
  index := mapFlags.testBit 2
  dpmin := min dpmin 6000
  exempt := mapFlags.testBit 3
  customerTag := customerTag

/-- The address may be written: 1 to 62, and for a twin an even address other than 62 (R2). -/
def addressAllowed (address : Nat) (twin : Bool) : Bool := isAddress address && (!twin || isTwinAddress address)

/-- WRITE_MAP's own rule (R2): index, then trunk and address, then uniqueness. -/
def State.carryWriteMap (s : State) (index mapFlags trunk address qc dpmin customerTag : Nat) : Carried :=
  match stationOf index, trunkOf trunk with
  | some l, some t =>
    let m := mapPartOf t mapFlags address qc dpmin customerTag
    if addressAllowed address m.twin = false then answerCode s .badIndex
    else if m.enabled ∧ s.isUnique l m = false then answerCode s .duplicate
    else answerOk (s.writeMap l m) m.bytes
  | _, _ => answerCode s .badIndex

/-- WRITE_MAP (R2). -/
def execWriteMap (p : PortId) (tag index mapFlags trunk address qc dpmin customerTag : Nat) (s : State) :
    Host.Outcome State Fault Refusal :=
  .next (s.request p tag 0x30 .fourWrites fun s => s.carryWriteMap index mapFlags trunk address qc dpmin customerTag)

/-! ## The Admission List -/

/-- The address is a candidate on the trunk. -/
def State.isCandidate (s : State) (t : TrunkId) (address : Nat) : Bool :=
  s.candidates.any fun c => c.trunk == t && c.address == address

/-- The map part that ADMIT writes (R140). -/
def admittedPart (t : TrunkId) (address : Nat) (twin : Bool) (qc : Nat) : MapPart where
  enabled := true
  trunk := t
  address := address
  twin := twin
  qc := min qc 8000
  index := false
  dpmin := 0
  exempt := false
  customerTag := 0

/-- ADMIT's own rule (R140). -/
def State.carryAdmit (s : State) (trunk address index twin qc : Nat) : Carried :=
  match stationOf index, trunkOf trunk with
  | some l, some t =>
    let m := admittedPart t address (twin ≠ 0) qc
    if isAddress address = false then answerCode s .badIndex
    else if s.isCandidate t address = false then answerCode s .none
    else if addressAllowed address m.twin = false then answerCode s .badIndex
    else if (s.image l).state ≠ .unbound then answerCode s .inUse
    else if s.isUnique l m = false then answerCode s .duplicate
    else answerOk ((s.bindingChange l m).removeBoundCandidates m) m.bytes
  | _, _ => answerCode s .badIndex

/-- ADMIT (R140). -/
def execAdmit (p : PortId) (tag trunk address index twin qc : Nat) (s : State) : Host.Outcome State Fault Refusal :=
  .next (s.request p tag 0x43 .operator fun s => s.carryAdmit trunk address index twin qc)

/-- A candidate leaves the list, which clears the overflow mark (R138). -/
def State.removeCandidate (s : State) (t : TrunkId) (address : Nat) : State :=
  { s with candidates := s.candidates.filter fun c => !(c.trunk == t && c.address == address), overflow := false }

/-- An address put into an ascending list, once. -/
def insertAddress (address : Nat) : List Nat → List Nat
  | [] => [address]
  | a :: as => if address < a then address :: a :: as else if address = a then a :: as else a :: insertAddress address as

/-- REJECT (R141). -/
def execReject (p : PortId) (tag trunk address : Nat) (s : State) : Host.Outcome State Fault Refusal :=
  .next (s.request p tag 0x44 .operator fun s =>
    match trunkOf trunk with
    | some t =>
      if isAddress address = false then answerCode s .badIndex
      else if s.isCandidate t address = false then answerCode s .none
      else answerOk ((s.removeCandidate t address).setRefused t (insertAddress address (s.refused t))) []
    | none => answerCode s .badIndex)

/-- FORGET (R142). -/
def execForget (p : PortId) (tag trunk address : Nat) (s : State) : Host.Outcome State Fault Refusal :=
  .next (s.request p tag 0x45 .operator fun s =>
    match trunkOf trunk with
    | some t =>
      if isAddress address = false then answerCode s .badIndex
      else if (s.refused t).contains address = false then answerCode s .none
      else answerOk (s.setRefused t ((s.refused t).filter (· ≠ address))) []
    | none => answerCode s .badIndex)

/-! ## Overrides -/

/-- The places an entry of the key needs in a queue: none where it takes the place of a waiting entry (R77, R121). -/
def roomNeeded (q : List CommandEntry) (l : Station) (item : Item) : Nat := if hasWaiting q l item then 0 else 1

/-- The entry is a waiting CAP of the limiter for the station (R78). -/
def isLimiterCap (l : Station) (e : CommandEntry) : Bool := waitingKey l .cap e && e.originator == .limiter

/-- The limiter's waiting CAP for the station is removed, with outcome DROPPED (R78, step 1). -/
def State.dropLimiterCap (s : State) (t : TrunkId) (l : Station) : State :=
  match (s.queue t).find? (isLimiterCap l) with
  | some e => s.dropEntry t e
  | none => s

/-- The override field is set, with delivery state PENDING. -/
def State.setOverride (s : State) (l : Station) (p : PortId) (item : Item) (value : Option Nat) : State :=
  s.modifyImage l fun x =>
    { x with override := some { owner := p, item := item, value := value, delivery := .pending } }

/-- An override placed on an entry without one (R78). -/
def State.placeOverride (s : State) (l : Station) (p : PortId) (item : Item) (value : Option Nat) : State :=
  let t := (s.map l).trunk
  ((((s.dropLimiterCap t l).setLimit l .cleared).setOverride l p item value)).offerIfRoom t l item value (.port p)

/-- An override replaced by its owner (R79): for another item, the old item's NONE is queued first. -/
def State.replaceOverride (s : State) (l : Station) (p : PortId) (old : Item) (item : Item) (value : Option Nat) : State :=
  let t := (s.map l).trunk
  let s1 := if old = item then s else s.offerIfRoom t l old none (.port p)
  (s1.offerIfRoom t l item value (.port p)).setOverride l p item value

/-- A queue of so many entries has room for so many more (R121). -/
def hasRoom (held needed : Nat) : Bool := held + needed ≤ 16

/-- The queue has room for the commands of an OVERRIDE (R77, step 4). -/
def State.roomForOverride (s : State) (l : Station) (item : Item) : Bool :=
  let q := s.queue (s.map l).trunk
  match (s.image l).override with
  | none =>
    let q1 := match q.find? (isLimiterCap l) with
      | some e => q.erase e
      | none => q
    hasRoom q1.length (roomNeeded q1 l item)
  | some ov =>
    if ov.item = item then hasRoom q.length (roomNeeded q l item)
    else hasRoom q.length (roomNeeded q l ov.item + roomNeeded q l item)

/-- The item of an override: HOLD or CAP (R77). -/
def overrideItem (code : Nat) : Option Item :=
  match Item.ofCode code with
  | some .cap => some .cap
  | some .hold => some .hold
  | some .poll => none
  | none => none

/-- OVERRIDE's own rule (R77 to R79). -/
def State.carryOverride (s : State) (p : PortId) (index item value : Nat) : Carried :=
  match stationOf index with
  | none => answerCode s .badIndex
  | some l =>
    if (s.image l).state = .unbound then answerCode s .badIndex
    else
      match overrideItem item with
      | none => answerCode s .unknown
      | some it =>
        if (s.image l).override.any (·.owner ≠ p) then answerCode s .held
        else if s.roomForOverride l it = false then answerCode s .qfull
        else
          let v := itemValue it value
          let s1 := match (s.image l).override with
            | none => s.placeOverride l p it v
            | some ov => s.replaceOverride l p ov.item it v
          answerOk s1 (byte it.code :: opt2 v)

/-- OVERRIDE (R77). -/
def execOverride (p : PortId) (tag index item value : Nat) (s : State) : Host.Outcome State Fault Refusal :=
  .next (s.request p tag 0x40 .operator fun s => s.carryOverride p index item value)

/-- RELEASE's own rule (R81). -/
def State.carryRelease (s : State) (p : PortId) (index : Nat) : Carried :=
  match stationOf index with
  | none => answerCode s .badIndex
  | some l =>
    match (s.image l).override with
    | none => answerCode s .none
    | some ov =>
      let t := (s.map l).trunk
      if ov.owner ≠ p then answerCode s .held
      else if hasRoom (s.queue t).length (roomNeeded (s.queue t) l ov.item) = false then answerCode s .qfull
      else
        answerOk ((s.modifyImage l fun x => { x with override := none }).offerIfRoom t l ov.item none (.port p)) []

/-- RELEASE (R81). -/
def execRelease (p : PortId) (tag index : Nat) (s : State) : Host.Outcome State Fault Refusal :=
  .next (s.request p tag 0x41 .operator fun s => s.carryRelease p index)

/-- An entry whose originator is a port other than this one. -/
def ofAnotherPort (p : PortId) : Originator → Bool
  | .port q => q != p
  | .limiter => false
  | .module => false

/-- CANCEL's own rule (R130). -/
def State.carryCancel (s : State) (p : PortId) (index item : Nat) : Carried :=
  match stationOf index with
  | none => answerCode s .badIndex
  | some l =>
    if (s.image l).state = .unbound then answerCode s .badIndex
    else
      match Item.ofCode item with
      | none => answerCode s .unknown
      | some it =>
        let t := (s.map l).trunk
        match (s.queue t).find? (waitingKey l it) with
        | some e =>
          if ofAnotherPort p e.originator then answerCode s .held else answerOk (s.dropEntry t e) []
        | none =>
          if (s.queue t).any fun e => e.index == l && e.item == it then answerCode s .inFlight else answerCode s .none

/-- CANCEL (R130). -/
def execCancel (p : PortId) (tag index item : Nat) (s : State) : Host.Outcome State Fault Refusal :=
  .next (s.request p tag 0x42 .operator fun s => s.carryCancel p index item)

/-! ## The reading timers -/

/-- The tick at which a reading reaches an age of so many seconds (R9, R12, R13). -/
def Reading.ageDue (r : Reading) (seconds : Nat) : Nat := r.goodAt + seconds * ticksPerSecond

/-- An entry becomes STALE; its hold-limit timer runs from the same time of last good reading (R12). -/
def State.enterStale (s : State) (l : Station) : State := s.modifyImage l fun x => { x with state := .stale }

/-- STALE_AGE_EXPIRY (R12). The timer runs only while the entry is LIVE. -/
def execStaleAgeExpiry (l : Station) (s : State) : Host.Outcome State Fault Refusal :=
  match (s.image l).state, (s.image l).reading with
  | .live, some r => if s.powered then .next ((s.await (r.ageDue s.params.staleAge)).enterStale l) else .next s
  | _, _ => .next s

/-- HOLD_LIMIT_EXPIRY (R13). The timer runs only while the entry is STALE. -/
def execHoldLimitExpiry (l : Station) (s : State) : Host.Outcome State Fault Refusal :=
  match (s.image l).state, (s.image l).reading with
  | .stale, some r => if s.powered then .next ((s.await (r.ageDue s.params.holdLimit)).enterLost l) else .next s
  | _, _ => .next s

end Sys2Proof.Machine
end

