-- ==== Sys2Proof/Machine/SettingsStore.lean ====
section
/-! DEFINITION. The parameters, the Settings Store, start-up and RESTART (chapter 11): WRITE_PARAM, SAVE, SAVE_COMPLETE,
FULL_RESET, RESET_ASSERTED_OR_SUPPLY_LOST and RESTART. -/

namespace Sys2Proof.Machine

/-! ## WRITE_PARAM -/

/-- The age of the entry's reading has reached so many seconds. -/
def State.ageReached (s : State) (l : Station) (seconds : Nat) : Bool :=
  match (s.image l).reading with
  | some r => r.ageDue seconds ≤ s.clock
  | none => false

/-- A LIVE entry whose reading age is at or above the stale age becomes STALE (R14, step 1). -/
def State.rejudgeLive (s : State) (l : Station) : State :=
  if (s.image l).state = .live ∧ s.ageReached l s.params.staleAge then s.enterStale l else s

/-- A STALE entry whose reading age is at or above the hold limit enters LOST (R14, step 2). -/
def State.rejudgeStale (s : State) (l : Station) : State :=
  if (s.image l).state = .stale ∧ s.ageReached l s.params.holdLimit then s.enterLost l else s

/-- Every entry is judged against new limits (R14). DESIGN CHOICE: where one write takes several entries to LOST, they enter it
in order of logical index, and so their DROPPED outcomes come; the manual gives no order (assumption 29). -/
def State.rejudge (s : State) : State := stations.foldl State.rejudgeStale (stations.foldl State.rejudgeLive s)

/-- S is brought into the band (R37, step 3). -/
def State.clampSetpoint (s : State) : State := { s with setpoint := clampNat s.setpoint s.params.sMin s.params.sMax }

/-- The parameters after a write of one of them, by the rule that owns it; none for an unknown identifier (R152). -/
def Params.write (x : Params) (identifier v : Nat) : Option Params :=
  match identifier with
  | 0x01 => some { x with dispatchPeriod := clampNat v 1 60 }
  | 0x02 => some { x with limiterPeriod := clampNat v 10 300 }
  | 0x03 => some { x with staleAge := clampNat v 5 120, holdLimit := max x.holdLimit (clampNat v 5 120 + 5) }
  | 0x04 => some { x with holdLimit := clampNat v (x.staleAge + 5) 3600 }
  | 0x05 => some { x with faultMisses := clampNat v 1 15 }
  | 0x06 => some { x with loss := min v 150 }
  | 0x07 => some { x with sStart := clampNat v 500 6000 }
  | 0x08 => some { x with sMin := min (clampNat v 500 6000) x.sMax }
  | 0x09 => some { x with sMax := clampNat v 500 6000, sMin := min x.sMin (clampNat v 500 6000) }
  | 0x0A => some { x with stepUp := min v 500 }
  | 0x0B => some { x with stepDown := min v 500 }
  | 0x0C => some { x with deadband := min v 1000 }
  | 0x0D => some { x with dTmin := clampNat v 100 1500 }
  | 0x0E => some { x with hysteresis := min v 500 }
  | 0x0F => some { x with capfloor := min v 1000 }
  | 0x10 => some { x with capstep := min v 1000 }
  | 0x11 => some { x with rateA := rateApplied v }
  | 0x12 => some { x with rateB := rateApplied v }
  | 0x13 => some { x with haltOnCheckA := v ≠ 0 }
  | 0x14 => some { x with haltOnCheckB := v ≠ 0 }
  | 0x15 => some { x with autostart := v ≠ 0 }
  | _ => none

/-- What a write moves beside the parameter: the entries' states for the stale age and the hold limit (R14), and S for Smin
and Smax (R37). -/
def State.afterParam (s : State) (identifier : Nat) : State :=
  match identifier with
  | 0x03 => s.rejudge
  | 0x04 => s.rejudge
  | 0x08 => s.clampSetpoint
  | 0x09 => s.clampSetpoint
  | _ => s

/-- WRITE_PARAM's own rule (R152): the response echoes the applied value of the parameter written. -/
def State.carryWriteParam (s : State) (identifier value : Nat) : Carried :=
  match s.params.write identifier value with
  | some x => answerOk ((s.setParams x).afterParam identifier) (paramBytes identifier ((x.read identifier).getD 0))
  | none => answerCode s .unknown

/-- WRITE_PARAM (R152). -/
def execWriteParam (p : PortId) (tag identifier value : Nat) (s : State) : Host.Outcome State Fault Refusal :=
  .next (s.request p tag 0x32 .fourWrites fun s => s.carryWriteParam identifier value)

/-! ## The copy and SAVE -/

/-- The check of the settings as the copy holds them: a CRC-16 over all of them (R175). -/
def Settings.check (x : Settings) : BitVec 16 := crc16 (Config.copyBytes x)

/-- The validity judgement on the copy: it is whole, and its check agrees with its contents (R175). -/
def State.copyValid (s : State) : Bool := s.copyWhole && s.copyCheck == s.copy.check

/-- SAVE (R176): the working settings are captured, SAVE in progress becomes set, and the copy becomes invalid. -/
def execSave (p : PortId) (tag : Nat) (s : State) : Host.Outcome State Fault Refusal :=
  .next (s.request p tag 0x33 .fourWrites fun s =>
    answerOk { s with saving := some { captured := s.work, takenAt := s.clock }, copyWhole := false } [])

/-- The settings that a save captured are the copy, with their check, and whole (R176). -/
def State.writeCopy (s : State) (x : Settings) : State := { s with copy := x, copyCheck := x.check, copyWhole := true }

/-- SAVE_COMPLETE (R176). Where no save is in progress, none completes. -/
def execSaveComplete (s : State) : Host.Outcome State Fault Refusal :=
  match s.saving with
  | some x =>
    if s.powered then
      .next (({ s.writeCopy x.captured with saving := none, configDefaulted := false } : State).raiseAll .save)
    else .next s
  | none => .next s

/-- The tick at which a save completes: a free time, at most 400 ms after it was taken (R176; assumption 3). -/
def Saving.due (x : Saving) : Nat := x.takenAt + min (Config.saveDelay x.takenAt) (400 * ticksPerSecond / 1000)

/-! ## Start-up -/

/-- A trunk comes up RUNNING: autostart is on and its schedule holds a nonzero entry (R83, R178 step 5). -/
def comesUp (x : Params) (schedule : Schedule) : Bool :=
  x.autostart && (List.finRange 96).any fun i => (schedule.get i).length != 0

/-- The copy is whole once start-up or a held reset has cut a save in progress short (R176). -/
def State.wholeAfterCut (s : State) : Bool := s.copyWhole && s.saving.isNone

/-- Start-up, as one operation, with the straps as they are found (R178). The copy is judged with a save in progress cut short
(R175 to R177). -/
def State.startUp (s : State) (strap : PortId → Profile) : State :=
  let valid := s.copyValid && s.saving.isNone
  let work := if valid then s.copy else Settings.default
  { powered := true
    clock := 0
    ties := s.ties
    work := work
    copy := s.copy
    copyCheck := s.copyCheck
    copyWhole := s.wholeAfterCut
    saving := none
    configDefaulted := !valid
    images := tabulate 120 fun l => Image.atReset (work.maps.get l).enabled
    limits := Vector.replicate 120 LimitEntry.cleared
    trunkA := Trunk.atReset (comesUp work.params work.schedA) work.params.rateA
    trunkB := Trunk.atReset (comesUp work.params work.schedB) work.params.rateB
    candidates := []
    overflow := false
    refusedA := []
    refusedB := []
    offers := Vector.replicate 4 none
    current := none
    previous := none
    sequence := 0
    setpoint := work.params.startSetpoint
    mode := .starting
    clearMark := false
    dispatchDue := work.params.dispatchPeriod * ticksPerSecond
    limiterDue := work.params.limiterPeriod * ticksPerSecond
    ports := tabulate 4 fun p => Port.atReset (strap p)
    pending := s.pending }

/-- The straps as a function of the port. -/
def strapOf (p0 p1 p2 p3 : Profile) (p : PortId) : Profile :=
  match p with
  | 0 => p0
  | 1 => p1
  | 2 => p2
  | 3 => p3

/-- FULL_RESET (R178). -/
def execFullReset (p0 p1 p2 p3 : Profile) (s : State) : Host.Outcome State Fault Refusal :=
  .next (s.startUp (strapOf p0 p1 p2 p3))

/-- A trunk whose transmitter is off because the module is held in reset (R178). -/
def Trunk.heldInReset (x : Trunk) : Trunk := { x with txEnabled := false, exchange := none, slot := none }

/-- A port that sends nothing because the module is held in reset (R178). -/
def Port.heldInReset (x : Port) : Port := { x with receiving := [], sending := none, owedBusy := none }

/-- RESET_ASSERTED_OR_SUPPLY_LOST (R178): the module drives no line until the next full reset, and a save in progress is cut
short, which leaves the copy invalid (R176). -/
def execResetAsserted (s : State) : Host.Outcome State Fault Refusal :=
  .next (({ s with
    powered := false
    saving := none
    copyWhole := s.wholeAfterCut
    trunkA := s.trunkA.heldInReset
    trunkB := s.trunkB.heldInReset } : State).eachPort (·.heldInReset))

/-- RESTART (R179): its response, OK, is sent whole first; the network state is reset when its last byte has been sent, by
RESPONSE_COMPLETE. -/
def execRestart (p : PortId) (tag : Nat) (s : State) : Host.Outcome State Fault Refusal :=
  .next (s.take p tag 0x37 (fun s p => s.gate p .operator) true fun s => answerOk s [])

end Sys2Proof.Machine
end

