-- ==== Sys2Proof/Machine/Supervision.lean ====
section
/-! DEFINITION. The Port Supervisor and the attention flags (chapters 10 and 11): HELLO, REFRESH, SET_WINDOW, ACK, SET_MASK,
SET_NOTIFY and the two window expiries. -/

namespace Sys2Proof.Machine

/-- The supervisor's part of a HELLO, by the port's state (R162). -/
def State.helloTaken (s : State) (p : PortId) : State :=
  match (s.port p).state with
  | .closed | .opening | .lapsed =>
      s.modifyPort p fun x => { x with state := .opening, window := some s.longWindow }
  | .live =>
      (s.modifyPort p fun x => { x with state := .opening, window := some s.longWindow }).leaveLive p
  | .shut => s.modifyPort p fun x => { x with state := .lapsed, window := some s.longWindow }

/-- HELLO's payload (R153). -/
def State.helloBytes (s : State) (p : PortId) : List Byte :=
  [byte p.val, byte (profileCode (s.port p).profile), byte (s.port p).state.code, byte (s.port p).failures,
    byte (s.port p).windowLen]

/-- HELLO (R162). -/
def execHello (p : PortId) (tag : Nat) (s : State) : Host.Outcome State Fault Refusal :=
  .next (s.take p tag 0x01 gateHello false fun s =>
    let s1 := s.helloTaken p
    answerOk s1 (s1.helloBytes p))

/-- A port becomes LIVE, or stays LIVE, with a REFRESH window of the length W holds (R163, R164). -/
def State.enterLive (s : State) (p : PortId) : State :=
  s.modifyPort p fun x => { x with state := .live, window := some (s.refreshWindow p) }

/-- The moment lies in the closed half of the window: before half its length has passed (R161). -/
def Window.inClosedHalf (w : Window) (nowMs : Nat) : Bool := w.kind = .refresh && nowMs < w.startMs + w.lengthMs / 2

/-- The supervisor's judgement of a REFRESH (R163, R164). -/
def State.refreshTaken (s : State) (p : PortId) : State :=
  match (s.port p).state with
  | .opening | .lapsed => s.enterLive p
  | .live =>
    match (s.port p).window with
    | some w => if w.inClosedHalf s.nowMs then s.fail p else s.enterLive p
    | none => s.enterLive p
  | .closed | .shut => s

/-- REFRESH's payload (R153). -/
def State.refreshBytes (s : State) (p : PortId) : List Byte :=
  [byte (s.port p).state.code, byte (s.port p).failures] ++ opt4 (s.windowLeft p)

/-- REFRESH (R164). -/
def execRefresh (p : PortId) (tag : Nat) (s : State) : Host.Outcome State Fault Refusal :=
  .next (s.request p tag 0x02 .open fun s =>
    let s1 := s.refreshTaken p
    answerOk s1 (s1.refreshBytes p))

/-- SET_WINDOW (R165). -/
def execSetWindow (p : PortId) (tag seconds : Nat) (s : State) : Host.Outcome State Fault Refusal :=
  .next (s.request p tag 0x03 .open fun s =>
    let w := clampNat seconds 2 60
    answerOk (s.modifyPort p fun x => { x with windowLen := w }) [byte w])

/-- The port after an ACK of the named flags (R174, R166). -/
def Port.acknowledged (x : Port) (named : FlagSet) : Port :=
  { x with
    flags := x.flags &&& ~~~named
    failures := if named &&& .watchdog ≠ 0 ∧ x.state = .live then 0 else x.failures }

/-- ACK (R174). -/
def execAck (p : PortId) (tag flagSet : Nat) (s : State) : Host.Outcome State Fault Refusal :=
  .next (s.request p tag 0x05 .open fun s =>
    let s1 := s.modifyPort p (·.acknowledged (flagSetOf flagSet))
    answerOk s1 (s1.port p).flags.bytes)

/-- The mask that a written set leaves: a PLANT port has no CANDIDATE flag (R173). -/
def appliedMask (profile : Profile) (named : FlagSet) : FlagSet :=
  match profile with
  | .plant => named &&& ~~~FlagSet.candidate
  | .operator => named

/-- SET_MASK (R173). -/
def execSetMask (p : PortId) (tag flagSet : Nat) (s : State) : Host.Outcome State Fault Refusal :=
  .next (s.request p tag 0x06 .open fun s =>
    let m := appliedMask (s.port p).profile (flagSetOf flagSet)
    answerOk (s.modifyPort p fun x => { x with mask := m }) m.bytes)

/-- SET_NOTIFY (R159). -/
def execSetNotify (p : PortId) (tag mode : Nat) (s : State) : Host.Outcome State Fault Refusal :=
  .next (s.request p tag 0x07 .open fun s =>
    match NotifyMode.ofCode mode with
    | some m => answerOk (s.modifyPort p fun x => { x with notify := m }) [byte m.code]
    | none => answerCode s .unknown)

/-- LONG_WINDOW_EXPIRY (R163): the LONG window of an OPENING or LAPSED port expires, which is a failure. Where no such window
runs, nothing expires. -/
def execLongWindowExpiry (p : PortId) (s : State) : Host.Outcome State Fault Refusal :=
  match (s.port p).state, (s.port p).window with
  | .opening, some w | .lapsed, some w =>
    if s.powered ∧ w.kind = .long then .next ((s.await (ticksOfMs (w.startMs + w.lengthMs))).fail p) else .next s
  | _, _ => .next s

/-- REFRESH_WINDOW_EXPIRY (R164): the REFRESH window of a LIVE port expires, a LATE failure. Where no such window runs,
nothing expires. -/
def execRefreshWindowExpiry (p : PortId) (s : State) : Host.Outcome State Fault Refusal :=
  match (s.port p).state, (s.port p).window with
  | .live, some w =>
    if s.powered ∧ w.kind = .refresh then .next ((s.await (ticksOfMs (w.startMs + w.lengthMs))).fail p) else .next s
  | _, _ => .next s

end Sys2Proof.Machine
end

