-- ==== Sys2Proof/Machine/Due.lean ====
section
/-! DEFINITION. The events that fall due by the module's own timers and lines, and what the module does while no command
waits: it hands itself the event that is due, or lets one tick of its time pass (assumption 2). -/

namespace Sys2Proof.Machine

/-- A due event in a list of its own, or nothing. -/
def dueIf (due : Bool) (i : Instr) : List Instr := if due then [i] else []

/-- The oldest frame of a port has ended (R146): it holds 64 bytes, or the gap after it has passed, or a later frame has begun. -/
def Port.frameEnded (x : Port) (clock : Nat) : Option (List Byte) :=
  match x.receiving with
  | [] => none
  | [f] => if f.isOpen clock || clock < f.endAt then none else some f.bytes
  | f :: _ :: _ => some f.bytes

/-- The expiry of a port's running window (R161, R163, R164). -/
def Window.expiry (w : Window) (p : PortId) : Instr :=
  match w.kind with
  | .long => .longWindowExpiry p
  | .refresh => .refreshWindowExpiry p

/-- The window of a port is one that its state runs (R161). -/
def Port.runs (x : Port) (w : Window) : Bool :=
  match x.state, w.kind with
  | .opening, .long => true
  | .lapsed, .long => true
  | .live, .refresh => true
  | _, _ => false

/-- The events due on a port. -/
def State.portDue (s : State) (p : PortId) : List Instr :=
  let x := s.port p
  (match x.frameEnded s.clock with
    | some bytes => [judgeFrame p bytes]
    | none => [])
  ++ (match x.sending with
    | some r => dueIf (r.endAt ≤ s.clock) (.responseComplete p)
    | none => [])
  ++ (match x.window with
    | some w => dueIf (x.runs w && w.startMs + w.lengthMs ≤ s.nowMs) (w.expiry p)
    | none => [])

/-- The events due at a Station Table entry (R12, R13). -/
def State.stationDue (s : State) (l : Station) : List Instr :=
  match (s.image l).state, (s.image l).reading with
  | .live, some r => dueIf (r.ageDue s.params.staleAge ≤ s.clock) (.staleAgeExpiry l)
  | .stale, some r => dueIf (r.ageDue s.params.holdLimit ≤ s.clock) (.holdLimitExpiry l)
  | _, _ => []

/-- The end of an exchange that has been sent, where it is due (R87, R88, R89). -/
def Exchange.endDue (x : Exchange) (t : TrunkId) (bt sent clock : Nat) : List Instr :=
  match x.kind with
  | .pair _ => dueIf (x.pairDue bt sent ≤ clock) (.pairExchangeEnd t)
  | .rollcall => dueIf (sent + 808 * bt ≤ clock) (.rollcallEnd t)
  | .scan _ | .headScan _ | .command _ =>
    match x.reply bt sent with
    | some f => dueIf (f.closedAt bt ≤ clock) (.replyClosed t)
    | none => dueIf (sent + 48 * bt ≤ clock) (.replyTimeout t)

/-- The tick at which a request's last byte has been read back, unless its echo is lost: a free time after the end of the
request, at most 2 bit-times (R97; assumption 33). -/
def Exchange.readBackDue (x : Exchange) (t : TrunkId) (bt : Nat) : Nat :=
  x.requestEnd bt + Config.readBack t (x.requestEnd bt) % (2 * bt + 1)

/-- The events due on a trunk (R87 to R89, R97, R99, R108, R113). -/
def State.trunkDue (s : State) (t : TrunkId) : List Instr :=
  let y := s.trunk t
  let bt := y.bitTicks
  match y.exchange with
  | some x =>
    if x.withheld then dueIf (x.startAt + x.kind.withheldLength * bt ≤ s.clock) (.withheldExchangeEnd t)
    else
      match x.sentAt with
      | some sent => x.endDue t bt sent s.clock
      | none => dueIf (x.readBackDue t bt ≤ s.clock) (.requestSent t)
  | none => dueIf (y.state = .running && y.slotDue ≤ s.clock) (.slotStart t)

/-- Every event that is due. While the module is held in reset none is (R178). -/
def State.dueEvents (s : State) : List Instr :=
  if s.powered then
    portIds.flatMap s.portDue
      ++ dueIf (s.dispatchDue ≤ s.clock) .dispatchExpiry
      ++ dueIf (s.limiterDue ≤ s.clock) .limiterExpiry
      ++ stations.flatMap s.stationDue
      ++ s.trunkDue .a ++ s.trunkDue .b
      ++ (match s.saving with
        | some x => dueIf (x.due ≤ s.clock) .saveComplete
        | none => [])
  else []

/-- The module while no command waits (assumption 2): where an event is due it is handed to the queue, and where several are
due a free choice says which; where none is due one tick passes. While it is held in reset nothing happens. -/
def State.idle (s : State) : State :=
  match s.dueEvents with
  | [] => if s.powered then { s with clock := s.clock + 1 } else s
  | [c] => { s with pending := [c] }
  | c :: d :: es =>
    { s with
      ties := s.ties + 1
      pending := ((c :: d :: es)[Config.tieBreak s.ties % (es.length + 2)]?).toList }

end Sys2Proof.Machine
end

