-- ==== Sys2Proof/Machine/Dispatch.lean ====
section
/-! DEFINITION. The meaning of every command: one arm per row of spec/opcode_table.json, in the table's order. -/

namespace Sys2Proof.Machine

/-- The effect of a command on everything but the queue of waiting commands. -/
def exec (i : Instr) (s : State) : Host.Outcome State Fault Refusal :=
  match i with
  | .fullReset strap0 strap1 strap2 strap3 => Sys2Proof.Machine.execFullReset strap0 strap1 strap2 strap3 s
  | .requestDiscarded port => Sys2Proof.Machine.execRequestDiscarded port s
  | .unknownRequest port tag code => Sys2Proof.Machine.execUnknownRequest port tag code s
  | .responseComplete port => Sys2Proof.Machine.execResponseComplete port s
  | .hello port tag => Sys2Proof.Machine.execHello port tag s
  | .refresh port tag => Sys2Proof.Machine.execRefresh port tag s
  | .setWindow port tag seconds => Sys2Proof.Machine.execSetWindow port tag seconds s
  | .status port tag => Sys2Proof.Machine.execStatus port tag s
  | .ack port tag flagSet => Sys2Proof.Machine.execAck port tag flagSet s
  | .setMask port tag flagSet => Sys2Proof.Machine.execSetMask port tag flagSet s
  | .setNotify port tag mode => Sys2Proof.Machine.execSetNotify port tag mode s
  | .readDispatch port tag selector => Sys2Proof.Machine.execReadDispatch port tag selector s
  | .readImage port tag first count step => Sys2Proof.Machine.execReadImage port tag first count step s
  | .readStation port tag index => Sys2Proof.Machine.execReadStation port tag index s
  | .readQueue port tag trunk => Sys2Proof.Machine.execReadQueue port tag trunk s
  | .readCandidates port tag => Sys2Proof.Machine.execReadCandidates port tag s
  | .readOutcomes port tag => Sys2Proof.Machine.execReadOutcomes port tag s
  | .readParam port tag identifier => Sys2Proof.Machine.execReadParam port tag identifier s
  | .fallbackClear port tag => Sys2Proof.Machine.execFallbackClear port tag s
  | .postOffer port tag mode f cmin cmax rank ramp discharge charge => Sys2Proof.Machine.execPostOffer port tag mode f cmin cmax rank ramp discharge charge s
  | .withdrawOffer port tag => Sys2Proof.Machine.execWithdrawOffer port tag s
  | .writeMap port tag index mapFlags trunk address qc dpmin customerTag => Sys2Proof.Machine.execWriteMap port tag index mapFlags trunk address qc dpmin customerTag s
  | .writeSlot port tag trunk entry rule index length => Sys2Proof.Machine.execWriteSlot port tag trunk entry rule index length s
  | .writeParam port tag identifier value => Sys2Proof.Machine.execWriteParam port tag identifier value s
  | .save port tag => Sys2Proof.Machine.execSave port tag s
  | .saveComplete => Sys2Proof.Machine.execSaveComplete s
  | .trunkStart port tag trunk => Sys2Proof.Machine.execTrunkStart port tag trunk s
  | .trunkStop port tag trunk => Sys2Proof.Machine.execTrunkStop port tag trunk s
  | .trunkResume port tag trunk => Sys2Proof.Machine.execTrunkResume port tag trunk s
  | .restart port tag => Sys2Proof.Machine.execRestart port tag s
  | .override port tag index item value => Sys2Proof.Machine.execOverride port tag index item value s
  | .release port tag index => Sys2Proof.Machine.execRelease port tag index s
  | .cancel port tag index item => Sys2Proof.Machine.execCancel port tag index item s
  | .admitCandidate port tag trunk address index twin qc => Sys2Proof.Machine.execAdmit port tag trunk address index twin qc s
  | .reject port tag trunk address => Sys2Proof.Machine.execReject port tag trunk address s
  | .forget port tag trunk address => Sys2Proof.Machine.execForget port tag trunk address s
  | .longWindowExpiry port => Sys2Proof.Machine.execLongWindowExpiry port s
  | .refreshWindowExpiry port => Sys2Proof.Machine.execRefreshWindowExpiry port s
  | .dispatchExpiry => Sys2Proof.Machine.execDispatchExpiry s
  | .limiterExpiry => Sys2Proof.Machine.execLimiterExpiry s
  | .staleAgeExpiry station => Sys2Proof.Machine.execStaleAgeExpiry station s
  | .holdLimitExpiry station => Sys2Proof.Machine.execHoldLimitExpiry station s
  | .slotStart trunk => Sys2Proof.Machine.execSlotStart trunk s
  | .requestSent trunk => Sys2Proof.Machine.execRequestSent trunk s
  | .replyTimeout trunk => Sys2Proof.Machine.execReplyTimeout trunk s
  | .replyClosed trunk => Sys2Proof.Machine.execReplyClosed trunk s
  | .pairExchangeEnd trunk => Sys2Proof.Machine.execPairExchangeEnd trunk s
  | .rollcallEnd trunk => Sys2Proof.Machine.execRollcallEnd trunk s
  | .withheldExchangeEnd trunk => Sys2Proof.Machine.execWithheldExchangeEnd trunk s
  | .txStuck trunk => Sys2Proof.Machine.execTxStuck trunk s
  | .echoLost trunk => Sys2Proof.Machine.execEchoLost trunk s
  | .lineHeldSet trunk => Sys2Proof.Machine.execLineHeldSet trunk s
  | .lineHeldCleared trunk => Sys2Proof.Machine.execLineHeldCleared trunk s
  | .resetAsserted => Sys2Proof.Machine.execResetAsserted s
  | .portByteReceived port value => Sys2Proof.Machine.execPortByteReceived port value s
  | .trunkByteReceived trunk value stopBitGood => Sys2Proof.Machine.execTrunkByteReceived trunk value stopBitGood s

end Sys2Proof.Machine
end

