-- ==== Sys2Proof/Safety.lean ====
section
/-! DEFINITION. What the manual says of every state of the module, as predicates: the laws of the ports, the settings, the
queues, the trunks, the admission list, the images, what ports own, and the dispatch records. And the words in which claims
speak of requests: who may issue one, and what answering it leaves. -/

namespace Sys2Proof.Machine

/-! ## Ports (R145, R158, R161, R172, R173) -/

/-- The running window is one the port's state has (R161). -/
def windowFits : PortState → Option Window → Bool
  | .closed, w => w.isNone
  | .shut, w => w.isNone
  | .opening, some w => w.kind = .long && w.lengthMs = 30000
  | .lapsed, some w => w.kind = .long && w.lengthMs = 30000
  | .live, some w => w.kind = .refresh && w.lengthMs % 1000 = 0 && 2000 ≤ w.lengthMs && w.lengthMs ≤ 60000
  | .opening, none => false
  | .lapsed, none => false
  | .live, none => false

/-- The laws of one port: the counter and the window length are in range, the window fits the state, a CLOSED port has failed
nothing and masks nothing, the outcome list holds at most eight, a PLANT port has no CANDIDATE flag, and a BUSY is owed only
while a response is being sent. -/
abbrev Port.Sound (x : Port) : Prop :=
  x.failures ≤ 15 ∧ (2 ≤ x.windowLen ∧ x.windowLen ≤ 60) ∧ windowFits x.state x.window = true
    ∧ (x.state = .closed → x.failures = 0 ∧ x.mask = 0) ∧ x.outcomes.length ≤ 8
    ∧ (x.profile = .plant → x.flags &&& FlagSet.candidate = 0 ∧ x.mask &&& FlagSet.candidate = 0)
    ∧ (x.owedBusy.isSome = true → x.sending.isSome = true)

/-- Every port is sound. -/
abbrev State.PortsSound (s : State) : Prop := ∀ p : PortId, (s.port p).Sound

/-! ## Settings (R1, R3, R31, R36, R37, R84, R104, section 11.3) -/

/-- Every parameter lies in its range, Smin is not above Smax, and the hold limit is at least 5 s above the stale age. -/
abbrev Params.Sound (x : Params) : Prop :=
  (1 ≤ x.dispatchPeriod ∧ x.dispatchPeriod ≤ 60) ∧ (10 ≤ x.limiterPeriod ∧ x.limiterPeriod ≤ 300)
    ∧ (5 ≤ x.staleAge ∧ x.staleAge ≤ 120) ∧ (x.staleAge + 5 ≤ x.holdLimit ∧ x.holdLimit ≤ 3600)
    ∧ (1 ≤ x.faultMisses ∧ x.faultMisses ≤ 15) ∧ x.loss ≤ 150
    ∧ (500 ≤ x.sStart ∧ x.sStart ≤ 6000) ∧ (500 ≤ x.sMin ∧ x.sMin ≤ x.sMax ∧ x.sMax ≤ 6000)
    ∧ x.stepUp ≤ 500 ∧ x.stepDown ≤ 500 ∧ x.deadband ≤ 1000
    ∧ (100 ≤ x.dTmin ∧ x.dTmin ≤ 1500) ∧ x.hysteresis ≤ 500 ∧ x.capfloor ≤ 1000 ∧ x.capstep ≤ 1000
    ∧ (x.rateA = 9600 ∨ x.rateA = 19200 ∨ x.rateA = 38400 ∨ x.rateA = 57600)
    ∧ (x.rateB = 9600 ∨ x.rateB = 19200 ∨ x.rateB = 38400 ∨ x.rateB = 57600)

/-- The numbers of a map part are in range, and an enabled one names an address that may be bound. -/
abbrev MapPart.Sound (m : MapPart) : Prop :=
  m.qc ≤ 8000 ∧ m.dpmin ≤ 6000
    ∧ (m.enabled = true → (1 ≤ m.address ∧ m.address ≤ 62) ∧ (m.twin = true → m.address % 2 = 0 ∧ m.address ≤ 60))

/-- A schedule entry is zero, or has at least its rule's minimum length and at most 60000. -/
abbrev SlotEntry.Sound (e : SlotEntry) : Prop := e.length = 0 ∨ (e.rule.minimum ≤ e.length ∧ e.length ≤ 60000)

/-- Every trunk address is bound to at most one enabled entry, counting both addresses of a twin (R3). -/
abbrev Settings.Unique (x : Settings) : Prop :=
  ∀ k l : Station, k ≠ l → (x.maps.get k).trunk = (x.maps.get l).trunk →
    ∀ a ∈ (x.maps.get k).addresses, a ∉ (x.maps.get l).addresses

/-- The laws of the settings. -/
abbrev Settings.Sound (x : Settings) : Prop :=
  x.params.Sound ∧ (∀ l : Station, (x.maps.get l).Sound) ∧ x.Unique
    ∧ (∀ i : EntryIndex, (x.schedA.get i).Sound) ∧ (∀ i : EntryIndex, (x.schedB.get i).Sound)

/-- The working settings, the copy and what a save has captured are sound, and S lies within the band. -/
abbrev State.SettingsSound (s : State) : Prop :=
  s.work.Sound ∧ s.copy.Sound ∧ (∀ x ∈ s.saving, x.captured.Sound)
    ∧ (s.params.sMin ≤ s.setpoint ∧ s.setpoint ≤ s.params.sMax)

/-! ## Queues (R119, R120) -/

/-- Two entries are not both waiting with one key. -/
abbrev notSameWaiting (d e : CommandEntry) : Prop :=
  ¬(d.waiting = true ∧ e.waiting = true ∧ d.index = e.index ∧ d.item = e.item)

/-- The marks of one entry agree: what a half has done is there only while the entry is in flight, and a POLL has no value. -/
abbrev CommandEntry.Sound (e : CommandEntry) : Prop :=
  e.attempts ≤ 3 ∧ (e.evenDone = true → e.waiting = false) ∧ (e.evenStatus.isSome = true → e.evenDone = true)
    ∧ (e.item = .poll → e.value = none)

/-- The laws of a queue: at most 16 entries, at most one waiting entry of a key, at most one entry in flight. -/
abbrev QueueSound (q : List CommandEntry) : Prop :=
  q.length ≤ 16 ∧ q.Pairwise notSameWaiting ∧ (q.countP fun e => !e.waiting) ≤ 1 ∧ ∀ e ∈ q, e.Sound

/-- Both queues are sound. -/
abbrev State.QueuesSound (s : State) : Prop := QueueSound (s.queue .a) ∧ QueueSound (s.queue .b)

/-! ## Trunks (R83, R92 to R95, R119) -/

/-- The exchange in flight is a command's. -/
def Trunk.sendsCommand (x : Trunk) : Bool :=
  match x.exchange with
  | some e => e.kind.isCommand
  | none => false

/-- The laws of a trunk while the module is powered: a trunk at rest has no slot and no exchange, a HALTED one is disabled and
says why, a RUNNING or STOPPING one is enabled and holds no fault record, a STOPPING one waits for an exchange, and an entry
in flight has a frame on the line unless it is a twin's whose even half is done. -/
abbrev Trunk.Sound (x : Trunk) : Prop :=
  (x.state = .stopped ∨ x.state = .halted → x.slot = none ∧ x.exchange = none)
    ∧ (x.state = .halted → x.txEnabled = false ∧ x.fault.isSome = true)
    ∧ (x.state = .running ∨ x.state = .stopping → x.txEnabled = true ∧ x.fault = none)
    ∧ (x.state = .stopping → x.exchange.isSome = true)
    ∧ (x.txEnabled = false → x.fault.isSome = true)
    ∧ (x.rate = 9600 ∨ x.rate = 19200 ∨ x.rate = 38400 ∨ x.rate = 57600)
    ∧ (∀ e ∈ x.queue, e.waiting = false → x.sendsCommand = true ∨ e.evenDone = true)

/-- Both trunks are sound while the module is powered. -/
abbrev State.TrunksSound (s : State) : Prop := s.powered = true → s.trunkA.Sound ∧ s.trunkB.Sound

/-! ## Admission List (R136) -/

/-- The fields of a candidate are in range. -/
abbrev Candidate.Sound (c : Candidate) : Prop :=
  (1 ≤ c.address ∧ c.address ≤ 62) ∧ (1 ≤ c.seen ∧ c.seen ≤ 65535) ∧ c.absences ≤ 2

/-- A refused set holds addresses of stations, each once, in ascending order. -/
abbrev RefusedSound (as : List Nat) : Prop := as.Pairwise (· < ·) ∧ ∀ a ∈ as, 1 ≤ a ∧ a ≤ 62

/-- The laws of the Admission List: at most eight candidates, no two of one address, none bound or refused; and
those of the refused sets. -/
abbrev State.AdmissionSound (s : State) : Prop :=
  s.candidates.length ≤ 8 ∧ s.candidates.Pairwise (fun c d => ¬(c.trunk = d.trunk ∧ c.address = d.address))
    ∧ (∀ c ∈ s.candidates, c.Sound ∧ s.isBound c.trunk c.address = false ∧ c.address ∉ s.refused c.trunk)
    ∧ RefusedSound s.refusedA ∧ RefusedSound s.refusedB

/-! ## Images and limiter entries (R4, R5, R21, R64, R78) -/

/-- The values of a reading are in range (R5, R24). -/
abbrev Reading.Sound (r : Reading) : Prop :=
  r.q ≤ 8000 ∧ r.ts ≤ 4000 ∧ r.tr ≤ 4000 ∧ r.v ≤ 1000 ∧ ∀ dp ∈ r.dp, dp ≤ 6000

/-- R4's table for an image part, by whether its entry is enabled. -/
abbrev Image.Sound (x : Image) (enabled : Bool) : Prop :=
  (x.state = .unbound ↔ enabled = false) ∧ x.generation ≤ 255 ∧ x.misses ≤ 15
    ∧ (x.state = .unbound →
        x.misses = 0 ∧ x.reading = none ∧ x.status = none ∧ x.clash = false ∧ x.override = none)
    ∧ (x.state = .waiting → x.reading = none)
    ∧ (x.state = .live ∨ x.state = .stale → x.reading.isSome = true)
    ∧ (∀ r ∈ x.reading, r.Sound)
    ∧ (∀ ov ∈ x.override, ov.item ≠ .poll)

/-- A limiter entry counts recoveries only while it is ACTIVE, and no further than 3. -/
abbrev LimitEntry.Sound (e : LimitEntry) : Prop :=
  e.recovery ≤ 3 ∧ (e.recovery ≠ 0 → ∃ c ∈ e.state.cap, e.state = .active c)

/-- Every image part is as R4 allows, and the limiter claims nothing where a station is unbound or holds an override. -/
abbrev State.ImagesSound (s : State) : Prop :=
  ∀ l : Station, (s.image l).Sound (s.map l).enabled ∧ (s.limit l).Sound
    ∧ ((s.image l).state = .unbound ∨ (s.image l).override.isSome = true → (s.limit l).state = .none)

/-! ## What ports own (R42, R77, R170) -/

/-- The fields of an offer are in range (R42). -/
def Offer.inRange : Offer → Bool
  | .off => true
  | .fixed f cmin cmax => f ≤ 60000 && cmin ≤ cmax && cmax ≤ 60000
  | .follow cmin cmax rank ramp => cmin ≤ cmax && cmax ≤ 60000 && 1 ≤ rank && rank ≤ 8 && ramp ≤ 60000
  | .store rank discharge charge => 1 ≤ rank && rank ≤ 8 && discharge ≤ 60000 && charge ≤ 60000

/-- An offer belongs to a LIVE PLANT port, and an override to a LIVE OPERATOR port. -/
abbrev State.OwnersSound (s : State) : Prop :=
  (∀ p : PortId, ∀ o ∈ s.offer p, o.inRange = true ∧ (s.port p).profile = .plant ∧ (s.port p).state = .live)
    ∧ ∀ l : Station, ∀ ov ∈ (s.image l).override,
        (s.port ov.owner).profile = .operator ∧ (s.port ov.owner).state = .live

/-! ## Dispatch records (R50, R53, R58, R59, R61) -/

/-- The signed shares of a record, summed. -/
def Record.shareTotal (r : Record) : Int := (r.shares.map (·.share)).sum

/-- The flow shares of a record, summed. -/
def Record.flowTotal (r : Record) : Nat := (r.shares.map (·.flow)).sum

/-- The laws of a published record: the shares and U make D′, the status is that of U, a FALLBACK record has no shares, the
entries stand in order of port number, and Q is divided among the positive shares. -/
abbrev Record.Sound (r : Record) : Prop :=
  r.shareTotal + r.unmet = r.adjusted
    ∧ ((r.mode = .run ∧ r.status = statusFromUnmet r.unmet)
        ∨ (r.mode = .fallback ∧ r.status = .fallback ∧ r.shares = []))
    ∧ r.shares.Pairwise (fun d e => d.port < e.port)
    ∧ (∀ e ∈ r.shares, e.share ≤ 0 → e.flow = 0)
    ∧ ((∃ e ∈ r.shares, 0 < e.share) → r.flowTotal = r.flow)
    ∧ r.incomplete = decide (0 < r.excluded)

/-- The records held are sound, are numbered one after the other, and are there exactly outside STARTING; the clear mark is
set only in FALLBACK. -/
abbrev State.RecordsSound (s : State) : Prop :=
  (∀ r ∈ s.current, r.Sound ∧ r.sequence = s.sequence) ∧ (∀ r ∈ s.previous, r.Sound)
    ∧ (s.current = none ↔ s.mode = .starting) ∧ (s.current = none → s.previous = none ∧ s.sequence = 0)
    ∧ (∀ r ∈ s.current, ∀ q ∈ s.previous, r.sequence = (q.sequence + 1) % 65536)
    ∧ (s.clearMark = true → s.mode = .fallback)

/-! ## Requests: who may issue one, and what answering it leaves -/

/-- The module is powered and the port is FREE (R147). -/
abbrev State.Free (s : State) (p : PortId) : Prop := s.powered = true ∧ (s.port p).sending = none

/-- The port is FREE and in OPENING, LIVE or LAPSED. -/
abbrev State.Opened (s : State) (p : PortId) : Prop :=
  s.Free p ∧ ((s.port p).state = .opening ∨ (s.port p).state = .live ∨ (s.port p).state = .lapsed)

/-- The port is FREE, LIVE and strapped PLANT. -/
abbrev State.Plants (s : State) (p : PortId) : Prop :=
  s.Free p ∧ (s.port p).state = .live ∧ (s.port p).profile = .plant

/-- The port is FREE, LIVE and strapped OPERATOR. -/
abbrev State.Operates (s : State) (p : PortId) : Prop :=
  s.Free p ∧ (s.port p).state = .live ∧ (s.port p).profile = .operator

/-- The port operates, the network is not in FALLBACK and no save is in progress: the four writes pass R150. -/
abbrev State.Configures (s : State) (p : PortId) : Prop :=
  s.Operates p ∧ s.mode ≠ .fallback ∧ s.saving = none

/-- The state with the port's oldest received frame taken from its receiver; nothing else differs. -/
def State.received (s : State) (p : PortId) : State :=
  s.setPort p { s.port p with receiving := (s.port p).receiving.tail }

/-- The state with the port sending a response from now on, ten ticks for each of its bytes; nothing else differs. -/
def State.answers (s : State) (p : PortId) (r : Response) : State :=
  s.setPort p { s.port p with
    sending := some { response := r, endAt := s.clock + 10 * (r.payload.length + 8), restarts := false } }

/-- The response OK with a payload. -/
def okResponse (tag request : Nat) (payload : List Byte) : Response :=
  { tag := tag, request := request, code := .ok, payload := payload }

/-- A response with another code: no payload. -/
def codeResponse (tag request : Nat) (c : ResponseCode) : Response :=
  { tag := tag, request := request, code := c, payload := [] }

/-- A request's row in R149's table: the profile it is open to (none for both), whether it needs LIVE, and whether it is one
of the four writes refused FALLBACK and BUSY. HELLO, which every state takes, and what is no request of the table have none. -/
def requestRow : Instr → Option (Option Profile × Bool × Bool)
  | .refresh _ _ | .setWindow _ _ _ | .status _ _ | .ack _ _ _ | .setMask _ _ _ | .setNotify _ _ _ => some (none, false, false)
  | .readDispatch _ _ _ | .readImage _ _ _ _ _ | .readStation _ _ _ | .readQueue _ _ _ => some (none, false, false)
  | .readCandidates _ _ | .readOutcomes _ _ | .readParam _ _ _ => some (none, false, false)
  | .fallbackClear _ _ => some (none, true, false)
  | .postOffer _ _ _ _ _ _ _ _ _ _ | .withdrawOffer _ _ => some (some .plant, true, false)
  | .writeMap _ _ _ _ _ _ _ _ _ | .writeSlot _ _ _ _ _ _ _ | .writeParam _ _ _ _ | .save _ _ =>
      some (some .operator, true, true)
  | .trunkStart _ _ _ | .trunkStop _ _ _ | .trunkResume _ _ _ | .restart _ _ => some (some .operator, true, false)
  | .override _ _ _ _ _ | .release _ _ _ | .cancel _ _ _ _ => some (some .operator, true, false)
  | .admitCandidate _ _ _ _ _ _ _ | .reject _ _ _ _ | .forget _ _ _ _ => some (some .operator, true, false)
  | _ => none

/-! ## What the endings of queue entries may touch, and a port's failure -/

/-- All that differs between two states is what queue entries and their endings touch: the queues, the outcome lists with
their overrun marks and flags, the limiter entries, and the override fields. -/
def WorkFrame (s t : State) : Prop :=
  t = { s with
    images := t.images
    limits := t.limits
    trunkA := { s.trunkA with queue := t.trunkA.queue }
    trunkB := { s.trunkB with queue := t.trunkB.queue }
    ports := t.ports }
  ∧ (∀ q : PortId, t.port q =
      { s.port q with outcomes := (t.port q).outcomes, overrun := (t.port q).overrun, flags := (t.port q).flags })
  ∧ ∀ l : Station, t.image l = { s.image l with override := (t.image l).override }

/-- A flag of a set. -/
def hasFlag (flags f : FlagSet) : Prop := flags &&& f = f

/-- The record of a port that fails at the moment of `s`, and the window it then has (R167, steps 1 and 2). -/
def failedRecord (s : State) (x : Port) : Port :=
  if x.failures < 15 then
    { x with failures := x.failures + 1, state := .lapsed, window := some { kind := .long, startMs := s.nowMs, lengthMs := 30000 } }
  else { x with state := .shut, window := none }

/-- What a port owned has gone between the two states (R45, R82, R170): its offer is absent and no override is its own, and
the overrides of other ports stand, but for their delivery states. -/
def ReleasesAll (p : PortId) (s t : State) : Prop :=
  t.offer p = none ∧ (∀ l : Station, ∀ ov ∈ (t.image l).override, ov.owner ≠ p)
    ∧ ∀ l : Station, ∀ ov ∈ (s.image l).override, ov.owner ≠ p → ∃ d, (t.image l).override = some { ov with delivery := d }

/-- Every override that the port owns is released, in order of logical index, each in one step (R82): the step is that of
`State.releaseOverride`. -/
def State.releasedAll (s : State) (p : PortId) : State :=
  (List.finRange 120).foldl (fun u l =>
    match (u.image l).override with
    | some ov => if ov.owner = p then u.releaseOverride l ov else u
    | none => u) s

/-- The port has failed between the two states (R167): its record has moved; if it was LIVE its offer is then absent and its
overrides are released; and WATCHDOG is raised on it last. Beyond that only the work that a release touches has changed. -/
def FailsBetween (p : PortId) (s t : State) : Prop :=
  (let u := s.setPort p (failedRecord s (s.port p))
    let v := if (s.port p).state = .live then (u.setOffer p none).releasedAll p else u
    t = v.setPort p { v.port p with flags := (v.port p).flags ||| .watchdog })
  ∧ hasFlag (t.port p).flags .watchdog ∧ ((s.port p).state = .live → ReleasesAll p s t)
  ∧ WorkFrame
      ((if (s.port p).state = .live then s.setOffer p none else s).setPort p (failedRecord s (s.port p))) t

/-! ## What falls due -/

/-- The event is due on a port: its oldest received frame has ended (R146), its response has been sent (R147), or its running
window has passed (R163, R164). -/
def State.PortDue (s : State) (p : PortId) (c : Instr) : Prop :=
  let x := s.port p
  (∃ f fs, x.receiving = f :: fs ∧ c = judgeFrame p f.bytes
    ∧ (fs ≠ [] ∨ (f.endAt ≤ s.clock ∧ (64 ≤ f.bytes.length ∨ f.endAt + 30 < s.clock))))
  ∨ (∃ r, x.sending = some r ∧ r.endAt ≤ s.clock ∧ c = .responseComplete p)
  ∨ (∃ w, x.window = some w ∧ w.startMs + w.lengthMs ≤ s.nowMs
    ∧ (((x.state = .opening ∨ x.state = .lapsed) ∧ w.kind = .long ∧ c = .longWindowExpiry p)
      ∨ (x.state = .live ∧ w.kind = .refresh ∧ c = .refreshWindowExpiry p)))

/-- The event is due at a Station Table entry: its reading has reached the age that takes it to STALE or to LOST (R12, R13). -/
def State.StationDue (s : State) (l : Station) (c : Instr) : Prop :=
  ∃ r, (s.image l).reading = some r
    ∧ (((s.image l).state = .live ∧ r.goodAt + s.params.staleAge * 115200 ≤ s.clock ∧ c = .staleAgeExpiry l)
      ∨ ((s.image l).state = .stale ∧ r.goodAt + s.params.holdLimit * 115200 ≤ s.clock ∧ c = .holdLimitExpiry l))

/-- The event is due on a trunk: a withheld exchange has stood its time (R99), a request has been read back, at most 2 bit-times
after its end (R97), an exchange has ended (R87 to R89), or the next slot starts (R108). -/
def State.TrunkDue (s : State) (t : TrunkId) (c : Instr) : Prop :=
  let y := s.trunk t
  let bt := 115200 / y.rate
  (∃ x, y.exchange = some x ∧ x.withheld = true ∧ x.startAt + x.kind.withheldLength * bt ≤ s.clock
    ∧ c = .withheldExchangeEnd t)
  ∨ (∃ x, y.exchange = some x ∧ x.withheld = false ∧ x.sentAt = none ∧ c = .requestSent t
    ∧ (let stop := x.startAt + 10 * x.request.length * bt
      stop + Config.readBack t stop % (2 * bt + 1) ≤ s.clock))
  ∨ (∃ x sent, y.exchange = some x ∧ x.withheld = false ∧ x.sentAt = some sent
    ∧ ((x.kind = .rollcall ∧ sent + 808 * bt ≤ s.clock ∧ c = .rollcallEnd t)
      ∨ ((∃ stamp, x.kind = .pair stamp) ∧ x.pairDue bt sent ≤ s.clock ∧ c = .pairExchangeEnd t)
      ∨ (x.kind.oneReply = true ∧ x.reply bt sent = none ∧ sent + 48 * bt ≤ s.clock ∧ c = .replyTimeout t)
      ∨ (x.kind.oneReply = true ∧ ∃ f, x.reply bt sent = some f ∧ f.endAt + 16 * bt ≤ s.clock ∧ c = .replyClosed t)))
  ∨ (y.exchange = none ∧ y.state = .running ∧ c = .slotStart t
    ∧ ∀ sl, y.slot = some sl → sl.startAt + sl.length * bt ≤ s.clock)

/-- The event is due: one of a port, of a station or of a trunk, the expiry of the dispatch or the limiter timer (R46, R65), or
the end of a save, at most 400 ms (46080 ticks) after it was taken (R176). While the module is held in reset none is (R178). -/
def State.Due (s : State) (c : Instr) : Prop :=
  s.powered = true
  ∧ ((∃ p, s.PortDue p c) ∨ (s.dispatchDue ≤ s.clock ∧ c = .dispatchExpiry) ∨ (s.limiterDue ≤ s.clock ∧ c = .limiterExpiry)
    ∨ (∃ l, s.StationDue l c) ∨ (∃ t, s.TrunkDue t c)
    ∨ (∃ x, s.saving = some x ∧ x.takenAt + min (Config.saveDelay x.takenAt) 46080 ≤ s.clock ∧ c = .saveComplete))

/-! ## Words for the claims of the other chapters -/

/-- The state after the time up to a moment has passed, and with it nothing else. -/
def State.passed (s : State) (moment : Nat) : State := { s with clock := max s.clock moment }

/-- A flag raised on every port, and nothing else. -/
def State.flagged (s : State) (f : FlagSet) : State :=
  { s with ports := s.ports.map fun x => { x with flags := x.flags ||| f } }

/-- A PLANT port is LIVE (R47). -/
abbrev State.HasLivePlant (s : State) : Prop := ∃ q : PortId, (s.port q).profile = .plant ∧ (s.port q).state = .live

/-- The entry stands in the reference set with a margin and a valve position (R32). -/
def State.refers (s : State) (l : Station) (margin : Int) (v : Nat) : Prop :=
  (s.image l).state = .live ∧ (s.map l).index = true
    ∧ ∃ r dp, (s.image l).reading = some r ∧ r.dp = some dp ∧ margin = (dp : Int) - (s.map l).dpmin ∧ v = r.v

/-- A queue that has taken an entry (R120): in the place of the waiting entry of its key, or else at the end. -/
def TakesEntry (before : List CommandEntry) (e : CommandEntry) (after : List CommandEntry) : Prop :=
  (∃ i old, before[i]? = some old ∧ waitingKey e.index e.item old = true ∧ after = before.set i e)
    ∨ ((∀ d ∈ before, waitingKey e.index e.item d = false) ∧ after = before ++ [e])

/-- A queue less the waiting entries for a station (R129). -/
def withoutWaiting (q : List CommandEntry) (l : Station) : List CommandEntry :=
  q.filter fun e => !(e.waiting && e.index == l)

/-- The waiting entries for a station, oldest first: those that R129 removes. -/
def waitingFor (q : List CommandEntry) (l : Station) : List CommandEntry := q.filter fun e => e.waiting && e.index == l

/-! What the dropping of entries leaves, one entry after the other in the order of the list `gone`. -/

/-- The outcomes that it brings to a port's list, in their order (R129, R131): an entry with the release-reported mark brings
none. -/
def droppedOutcomes (gone : List CommandEntry) (p : PortId) (moment : Nat) : List OutcomeEntry :=
  (gone.filter fun e => e.originator == .port p && !e.releaseReported).map fun e =>
    { index := e.index, item := e.item, value := e.value, outcome := .dropped, at_ := moment }

/-- The override of a station after it (R80): REFUSED where an entry of the owner with the override's item and value is gone. -/
def refusedBy (gone : List CommandEntry) (l : Station) (ov : Override) : Override :=
  if ∃ e ∈ gone, e.index = l ∧ e.item = ov.item ∧ e.value = ov.value ∧ e.originator = .port ov.owner
      ∧ e.releaseReported = false then
    { ov with delivery := .refused }
  else ov

/-- The limiter entry of a station after it (R73, R74): cleared where it is PENDING with the value of a LIMITER entry that is
gone. -/
def clearedBy (gone : List CommandEntry) (l : Station) (x : LimitEntry) : LimitEntry :=
  if ∃ e ∈ gone, e.index = l ∧ e.originator = .limiter ∧ x.state = .pending e.value then { state := .none, recovery := 0 } else x

/-- What it leaves in every port: first the outcomes `told`, which a release reports of its own (R22, R82), and then those of the
entries gone stand in the list; CMD is raised with each of them in EACH, and once in DRAINED where the port's entries have
thereby reached none (R158, R159); the flags `extra` are raised on every port; and nothing else of a port differs. -/
def DropsReach (gone : List CommandEntry) (told : PortId → List OutcomeEntry) (extra : FlagSet) (s t : State) : Prop :=
  ∀ p : PortId,
    let x := (told p ++ droppedOutcomes gone p s.clock).foldl Port.addOutcome (s.port p)
    let drained : Prop :=
      (s.port p).notify = .drained ∧ (told p ≠ [] ∨ ∃ e ∈ gone, e.originator = .port p)
        ∧ ∀ r, ∀ e ∈ t.queue r, e.originator ≠ .port p
    (drained → t.port p = { x with flags := x.flags ||| .cmd ||| extra })
    ∧ (¬drained → t.port p = { x with flags := x.flags ||| extra })

/-- The places an entry of the key needs in a queue (R77, R121). -/
def placesNeeded (q : List CommandEntry) (l : Station) (item : Item) : Nat :=
  if ∃ e ∈ q, waitingKey l item e = true then 0 else 1

/-- The limiter's judgement of a reading (R68): low, recovered, and the cap of a low entry. A flow of 0 is never low
(assumption 30). -/
abbrev isLowNow (x : Params) (m : MapPart) (r : Reading) : Prop :=
  m.exempt = false ∧ 0 < m.qc ∧ 0 < r.q ∧ m.qc * 200 / 1000 ≤ r.q ∧ r.tr - r.ts < x.dTmin

abbrev isRecoveredNow (x : Params) (r : Reading) : Prop := x.dTmin + x.hysteresis ≤ r.tr - r.ts

def capNow (x : Params) (m : MapPart) (r : Reading) : Nat :=
  max (r.q * (r.tr - r.ts) / x.dTmin) (m.qc * x.capfloor / 1000)

/-- The entry is in scope at an evaluation (R67). -/
abbrev State.ScopedNow (s : State) (l : Station) : Prop :=
  (s.image l).state = .live ∧ (s.image l).override = none
    ∧ ∀ e ∈ s.queue (s.map l).trunk, e.index = l → e.item = .cap → e.originator = .limiter

/-- The limiter has queued a CAP for the station, or has been turned away by a full queue (R73); `count` is the recovery count
that the entry then has. -/
def LimiterQueues (s : State) (l : Station) (cap : Option Nat) (count : Nat) (t : State) : Prop :=
  let tr := (s.map l).trunk
  (((∃ e ∈ s.queue tr, waitingKey l .cap e = true) ∨ (s.queue tr).length < 16) ∧
      ∃ q, TakesEntry (s.queue tr) (newEntry l .cap cap .limiter) q
        ∧ t = (s.setQueue tr q).setLimit l { state := .pending cap, recovery := 0 })
    ∨ ((∀ e ∈ s.queue tr, waitingKey l .cap e = false) ∧ 16 ≤ (s.queue tr).length
      ∧ t = s.setLimit l { s.limit l with recovery := count })

/-- An entry of a schedule that stands in the sweep (R104). -/
abbrev inSweep (sched : Schedule) (k : EntryIndex) : Prop := (sched.get k).length ≠ 0

/-- The entry that the next slot takes, and whether a wrap reaches it (R107). -/
def TakesSlot (sched : Schedule) (pointer : Option EntryIndex) (k : EntryIndex) (wraps : Bool) : Prop :=
  inSweep sched k
    ∧ match pointer with
      | none => wraps = false ∧ ∀ j < k, ¬inSweep sched j
      | some i =>
        (wraps = false ∧ i < k ∧ ∀ j, i < j → j < k → ¬inSweep sched j)
          ∨ (wraps = true ∧ (∀ j, i < j → ¬inSweep sched j) ∧ ∀ j < k, ¬inSweep sched j)

end Sys2Proof.Machine
end

