-- ==== Sys2Proof/Certificates/Slice0/Obligations.lean ====
section
/-! DEFINITION. The statements about the model, for the provers. -/

open Sys2Proof Sys2Proof.Machine

/-! ## The step -/

/-- With a command at the front of the queue, a step is that command's meaning on the state with the rest of the queue. With
no command waiting the module idles: an event of its own that is due, by the times and timers that `State.Due` says, is handed
to the queue; where none is due one tick passes; while the module is held in reset nothing happens. Model's choices in it: log
entries 2, 3, 24, 33. -/
def Obligations.StepTakesCommandAtFront : Prop :=
  (∀ (s : State) (c : Instr) (cs : List Instr), s.pending = c :: cs → step s = exec c { s with pending := cs })
  ∧ ∀ s : State, s.pending = [] →
    (s.powered = false → step s = .next s)
    ∧ (s.powered = true → (∀ c, ¬s.Due c) → step s = .next { s with clock := s.clock + 1 })
    ∧ ((∃ c, s.Due c) →
      ∃ c n, s.Due c ∧ (n = s.ties ∨ n = s.ties + 1) ∧ step s = .next { s with ties := n, pending := [c] })

/-! ## Request frames (R146, R183) -/

/-- The frame of every well-formed request is short enough to be received, and its judgement gives the request back; a request
of an unknown code with an empty payload alone (FramesThatPass has it with any payload). Model's choices in it: log entry 6.
-/
def Obligations.RequestFramesRoundTrip : Prop :=
  ∀ (i : Instr) (p : PortId), i.wellFormed = true → requestPort i = some p →
    ∃ bytes, encodeRequest i = some bytes ∧ bytes.length < 64 ∧ judgeFrame p bytes = i

/-- A frame passes its judgement exactly when its sync bytes, its length, its CRC-16 and, for a known code, the length of its
payload are right; it is then the request of its code with the fields of its payload, or an unknown request. Model's choices
in it: log entry 6. -/
def Obligations.FramesThatPass : Prop :=
  (∀ (p : PortId) (length tag code : Byte) (payload frame : List Byte),
    frame = 0x5A#8 :: 0xC3#8 :: length :: tag :: code :: payload ++ crc16Bytes (length :: tag :: code :: payload) →
    length.toNat = frame.length →
    (requestLength code.toNat = none → judgeFrame p frame = .unknownRequest p tag.toNat code.toNat)
    ∧ (∀ n, requestLength code.toNat = some n →
        (payload.length = n →
          requestFields (judgeFrame p frame) = some (tag.toNat, code.toNat, payload)
            ∧ requestPort (judgeFrame p frame) = some p)
        ∧ (payload.length ≠ n → judgeFrame p frame = .requestDiscarded p)))
  ∧ ∀ (p : PortId) (frame : List Byte), judgeFrame p frame ≠ .requestDiscarded p →
      ∃ (length tag code : Byte) (payload : List Byte),
        frame = 0x5A#8 :: 0xC3#8 :: length :: tag :: code :: payload ++ crc16Bytes (length :: tag :: code :: payload)
        ∧ length.toNat = frame.length

/-- PORT_BYTE_RECEIVED begins a frame or extends the open one, which a 64th byte or a gap of more than 3 byte-times (30 ticks)
has not ended; REQUEST_DISCARDED takes the oldest frame from the receiver and does nothing else. Model's choices in it: log
entries 1, 5, 8. -/
def Obligations.PortReception : Prop :=
  ∀ (p : PortId) (b : Byte) (s : State), s.powered = true →
    (∀ frames f, (s.port p).receiving = frames ++ [f] →
      (f.bytes.length < 64 ∧ s.clock ≤ f.endAt + 30 →
        exec (.portByteReceived p b) s =
          .next (({ s with clock := max s.clock f.endAt } : State).setPort p { s.port p with
            receiving := frames ++ [{ bytes := f.bytes ++ [b], endAt := max s.clock f.endAt + 10 }] }))
      ∧ (64 ≤ f.bytes.length ∨ f.endAt + 30 < s.clock →
        exec (.portByteReceived p b) s =
          .next (({ s with clock := max s.clock f.endAt } : State).setPort p { s.port p with
            receiving := frames ++ [f, { bytes := [b], endAt := max s.clock f.endAt + 10 }] })))
    ∧ ((s.port p).receiving = [] →
        exec (.portByteReceived p b) s =
          .next (s.setPort p { s.port p with receiving := [{ bytes := [b], endAt := s.clock + 10 }] }))
    ∧ exec (.requestDiscarded p) s = .next (s.received p)

/-! ## The answering cycle (R147, R148, R150) -/

/-- On a FREE port every request is answered at once, under its own tag and code; on an ANSWERING port it changes nothing but
the owed BUSY; and at the end of a response the owed BUSY is sent next, or the port becomes FREE. Model's choices in it: log
entries 1, 5, 7, 32. -/
def Obligations.AnsweringCycle : Prop :=
  (∀ (i : Instr) (p : PortId) (tag code : Nat) (payload : List Byte) (s : State),
    requestFields i = some (tag, code, payload) → requestPort i = some p → s.powered = true →
    ((s.port p).sending = none →
      ∃ t x, exec i s = .next t ∧ (t.port p).sending = some x ∧ x.response.tag = tag ∧ x.response.request = code
        ∧ x.endAt = s.clock + 10 * (x.response.payload.length + 8))
    ∧ ((s.port p).sending ≠ none →
      exec i s = .next (s.setPort p { s.port p with
        receiving := (s.port p).receiving.tail, owedBusy := some (tag, code) })))
  ∧ ∀ (p : PortId) (x : Sending) (s : State), s.powered = true → (s.port p).sending = some x → x.restarts = false →
    (∀ tag code, (s.port p).owedBusy = some (tag, code) →
      exec (.responseComplete p) s = .next (({ s with clock := max s.clock x.endAt } : State).setPort p { s.port p with
        owedBusy := none
        sending := some
          { response := codeResponse tag code .busy, endAt := max s.clock x.endAt + 80, restarts := false } }))
    ∧ ((s.port p).owedBusy = none →
      exec (.responseComplete p) s =
        .next (({ s with clock := max s.clock x.endAt } : State).setPort p { s.port p with sending := none }))

/-- Steps 1 to 7 of R150 for every request but HELLO, in their order: the first that decides gives the response, and the
request changes nothing. UNKNOWN_REQUEST has no other effect. Model's choices in it: log entry 7. -/
def Obligations.GateRefusesInOrder : Prop :=
  (∀ (i : Instr) (p : PortId) (tag code : Nat) (payload : List Byte) (profile : Option Profile) (live write : Bool)
      (s : State),
    requestRow i = some (profile, live, write) → requestFields i = some (tag, code, payload) → requestPort i = some p →
    s.Free p →
    ((s.port p).state = .closed → exec i s = .next ((s.received p).answers p (codeResponse tag code .notLive)))
    ∧ ((s.port p).state = .shut → exec i s = .next ((s.received p).answers p (codeResponse tag code .shut)))
    ∧ (s.Opened p →
        (∀ q, profile = some q → (s.port p).profile ≠ q →
          exec i s = .next ((s.received p).answers p (codeResponse tag code .denied)))
        ∧ (profile = none ∨ profile = some (s.port p).profile →
          (live = true → (s.port p).state ≠ .live →
            exec i s = .next ((s.received p).answers p (codeResponse tag code .notLive)))
          ∧ ((live = true → (s.port p).state = .live) → write = true →
            (s.mode = .fallback → exec i s = .next ((s.received p).answers p (codeResponse tag code .fallback)))
            ∧ (s.mode ≠ .fallback → s.saving ≠ none →
              exec i s = .next ((s.received p).answers p (codeResponse tag code .busy)))))))
  ∧ ∀ (p : PortId) (tag code : Nat) (s : State), s.Free p →
    ((s.port p).state = .closed →
      exec (.unknownRequest p tag code) s = .next ((s.received p).answers p (codeResponse tag code .notLive)))
    ∧ ((s.port p).state = .shut →
      exec (.unknownRequest p tag code) s = .next ((s.received p).answers p (codeResponse tag code .shut)))
    ∧ (s.Opened p →
      exec (.unknownRequest p tag code) s = .next ((s.received p).answers p (codeResponse tag code .unknown)))

/-- STATUS, READ_STATION, READ_QUEUE, READ_CANDIDATES, READ_PARAM and READ_DISPATCH are answered from the state as it stands,
in every network mode, or with their refusals, and change nothing beyond the answering of the port: the payload of each with
its fields in order, and the parameter of each identifier. READ_DISPATCH returns one whole record, current or previous, or
NONE where there is none. And the codes of all fifteen enumerations of section 12.4. Model's choices in it: log entries 6, 7.
-/
def Obligations.ReadsOnlyAnswer : Prop :=
  let mark : Bool → Byte := fun b => if b then 1 else 0
  let one : Option Nat → Byte := fun n => byte (n.getD 255)
  let two : Option Nat → List Byte := fun n => be2 (n.getD 65535)
  let four : Option Nat → List Byte := fun n =>
    match n with
    | some v => 1 :: be4 v
    | none => 0 :: be4 4294967295
  let onTrunk : Trunk → List Byte := fun y =>
    [byte y.state.code] ++ be2 y.rate
      ++ (match y.fault with
        | some f => [byte f.kind.code] ++ four (some (msOfTicks f.at_)) ++ [one (f.entry.map (·.val)), byte (frameKindCode f.frame)]
        | none => [255] ++ four none ++ [255, 255])
      ++ [mark y.lineHeld] ++ be4 y.sweeps
      ++ [one (y.pointer.map (·.val)), mark y.commandMark, one (y.lastMismatch.map (·.val))]
  (∀ (p : PortId) (tag : Nat) (s : State), s.Opened p →
    let x := s.port p
    (exec (.status p tag) s =
      .next ((s.received p).answers p (okResponse tag 0x04
        ([byte p.val, byte (profileCode x.profile), byte x.state.code, byte x.failures, byte x.windowLen]
          ++ be2 x.flags.toNat ++ be2 x.mask.toNat ++ [byte x.notify.code, byte x.outcomes.length, mark x.overrun]
          ++ (portIds.flatMap fun k => [byte (profileCode (s.port k).profile), byte (s.port k).state.code])
          ++ [byte s.mode.code, mark s.clearMark, mark s.current.isSome]
          ++ be2 (if s.current.isSome then s.sequence else 65535) ++ [mark s.configDefaulted, mark s.saving.isSome]
          ++ onTrunk (s.trunk .a) ++ onTrunk (s.trunk .b) ++ be4 s.nowMs))))
    ∧ (∀ l : Station,
      let m := s.map l
      let i := s.image l
      let e := s.limit l
      exec (.readStation p tag l.val) s =
        .next ((s.received p).answers p (okResponse tag 0x12
          ([mark m.enabled, byte (trunkCode m.trunk), byte m.address, mark m.twin] ++ be2 m.qc ++ [mark m.index]
            ++ be2 m.dpmin ++ [mark m.exempt] ++ be2 m.customerTag
            ++ [byte i.state.code, byte i.generation, byte i.misses]
            ++ (match i.reading with
              | some r => be2 r.q ++ be2 r.ts ++ be2 r.tr ++ be2 r.v ++ two r.dp ++ [mark r.clamped]
                  ++ four (some (msOfTicks r.goodAt))
              | none => List.replicate 10 255 ++ [0] ++ four none)
            ++ [one (i.status.map BitVec.toNat), mark i.clash]
            ++ (match i.override with
              | some ov => [byte ov.owner.val, byte ov.item.code] ++ two ov.value ++ [byte ov.delivery.code]
              | none => List.replicate 5 255)
            ++ [byte e.state.code]
            ++ two (match e.state with
              | .none => none
              | .pending c => c
              | .active c => some c
              | .blocked c => c)
            ++ [byte e.recovery]))))
    ∧ (∀ n, 120 ≤ n →
        exec (.readStation p tag n) s = .next ((s.received p).answers p (codeResponse tag 0x12 .badIndex)))
    ∧ (∀ t : TrunkId, exec (.readQueue p tag (trunkCode t)) s =
        .next ((s.received p).answers p (okResponse tag 0x13
          (byte (s.queue t).length :: (s.queue t).flatMap fun e =>
            [byte e.index.val, byte e.item.code] ++ two e.value
              ++ [byte e.originator.code, byte e.attempts, mark e.stamp.isSome, mark e.evenDone]))))
    ∧ (∀ n, 2 ≤ n →
        exec (.readQueue p tag n) s = .next ((s.received p).answers p (codeResponse tag 0x13 .badIndex)))
    ∧ (exec (.readCandidates p tag) s =
      .next ((s.received p).answers p (okResponse tag 0x14
        ([mark s.overflow, byte s.candidates.length]
          ++ (s.candidates.flatMap fun c =>
            [byte (trunkCode c.trunk), byte c.address] ++ be4 (msOfTicks c.firstSeen) ++ be2 c.seen
              ++ [byte c.absences, mark c.clash])
          ++ (byte s.refusedA.length :: s.refusedA.map byte) ++ (byte s.refusedB.length :: s.refusedB.map byte)))))
    ∧ (let y := s.params
      let values : List Nat :=
        [y.dispatchPeriod, y.limiterPeriod, y.staleAge, y.holdLimit, y.faultMisses, y.loss, y.sStart, y.sMin, y.sMax, y.stepUp,
          y.stepDown, y.deadband, y.dTmin, y.hysteresis, y.capfloor, y.capstep, y.rateA, y.rateB, y.haltOnCheckA.toNat,
          y.haltOnCheckB.toNat, y.autostart.toNat]
      ∀ k v, values[k]? = some v →
        exec (.readParam p tag (k + 1)) s =
          .next ((s.received p).answers p (okResponse tag 0x16 [byte (k + 1), byte (v / 256), byte v])))
    ∧ (∀ n, n = 0 ∨ 0x15 < n →
        exec (.readParam p tag n) s = .next ((s.received p).answers p (codeResponse tag 0x16 .unknown)))
    ∧ (∀ r, s.current = some r →
      exec (.readDispatch p tag 0) s = .next ((s.received p).answers p (okResponse tag 0x10 r.bytes)))
    ∧ (s.current = none →
      exec (.readDispatch p tag 0) s = .next ((s.received p).answers p (codeResponse tag 0x10 .none)))
    ∧ (∀ r, s.previous = some r →
      exec (.readDispatch p tag 1) s = .next ((s.received p).answers p (okResponse tag 0x10 r.bytes)))
    ∧ (s.previous = none →
      exec (.readDispatch p tag 1) s = .next ((s.received p).answers p (codeResponse tag 0x10 .none)))
    ∧ ∀ n, 2 ≤ n → exec (.readDispatch p tag n) s = .next ((s.received p).answers p (codeResponse tag 0x10 .unknown)))
  ∧ (∀ v : Nat, be2 v = [byte (v / 256), byte v] ∧ be4 v = [byte (v / 16777216), byte (v / 65536), byte (v / 256), byte v])
  ∧ [StationState.unbound, .waiting, .live, .stale, .lost].map (·.code) = [0, 1, 2, 3, 4]
  ∧ [PortState.closed, .opening, .live, .lapsed, .shut].map (·.code) = [0, 1, 2, 3, 4]
  ∧ [Profile.plant, .operator].map profileCode = [0, 1] ∧ [NotifyMode.each, .drained].map (·.code) = [0, 1]
  ∧ [TrunkState.stopped, .running, .stopping, .halted].map (·.code) = [0, 1, 2, 3]
  ∧ [FaultKind.txStuck, .echoLost, .check].map (·.code) = [1, 2, 3]
  ∧ [none, some FrameKind.scan, some .pair, some .command, some .rollcall].map frameKindCode = [0, 1, 2, 3, 4]
  ∧ [NetMode.starting, .run, .fallback].map (·.code) = [0, 1, 2] ∧ [TrunkId.a, .b].map trunkCode = [0, 1]
  ∧ [RecordStatus.balanced, .short, .surplus, .fallback].map (·.code) = [0, 1, 2, 3]
  ∧ [OfferMode.off, .fixed, .follow, .store].map (·.code) = [0, 1, 2, 3]
  ∧ [CommandEnd.done, .refused, .noReply, .dropped].map (·.code) = [0, 1, 2, 3]
  ∧ (∀ l : Station,
    [SlotRule.scan l, .twinHead l, .twinTail, .cmdOrScan l, .cmdOrQuiet, .rollcall, .quiet].map (·.code) = [0, 1, 2, 3, 4, 5, 6])
  ∧ [Item.cap, .hold, .poll].map (·.code) = [1, 2, 3] ∧ [Delivery.pending, .applied, .refused].map (·.code) = [0, 1, 2]
  ∧ [Originator.port 0, .port 1, .port 2, .port 3, .limiter, .module].map (·.code) = [0, 1, 2, 3, 4, 5]
  ∧ ∀ c d, [LimitState.none, .pending c, .active d, .blocked c].map (·.code) = [0, 1, 2, 3]

/-! ## Reading the module (R62, R133, R143, R152 to R158, R184) -/

/-- The layouts of R184: a dispatch record of 31 bytes and 11 for each share entry, and an image record of 24 bytes, with
their fields at the offsets of its tables. The frame of a response as R183 lays it out, with its length and its CRC-16, the
sixteen response codes, and the two checks over the bytes "123456789". -/
def Obligations.RecordLayouts : Prop :=
  (∀ r : Record,
    r.bytes.length = 31 + 11 * r.shares.length
    ∧ r.bytes.take 2 = be2 r.sequence ∧ (r.bytes.drop 2).take 4 = be4 r.time
    ∧ (r.bytes.drop 6).take 2 = [byte r.mode.code, byte r.status.code]
    ∧ (r.bytes.drop 8).take 4 = be4 r.demand ∧ (r.bytes.drop 12).take 4 = be4 r.adjusted
    ∧ (r.bytes.drop 16).take 4 = be4 r.flow ∧ (r.bytes.drop 20).take 2 = be2 r.setpoint
    ∧ (r.bytes.drop 22).take 4 = be4 (BitVec.ofInt 32 r.unmet).toNat
    ∧ r.bytes[26]? = some (byte (r.incomplete.toNat + 2 * r.dpBlind.toNat))
    ∧ (r.bytes.drop 27).take 4 = [byte r.live, byte r.stale, byte r.excluded, byte r.shares.length]
    ∧ ∀ k e, r.shares[k]? = some e →
        (r.bytes.drop (31 + 11 * k)).take 11 =
          [byte e.port.val, byte e.mode.code] ++ be4 (BitVec.ofInt 32 e.share).toNat ++ be4 e.flow ++ [byte e.ramped.toNat])
  ∧ (∀ (l : Station) (m : MapPart) (x : Image),
    (imageRecord l m x).length = 24
    ∧ (imageRecord l m x).take 3 =
        [byte l.val, byte (m.enabled.toNat + 2 * m.twin.toNat + 4 * trunkCode m.trunk), byte m.address]
    ∧ ((imageRecord l m x).drop 3).take 2 = be2 m.customerTag
    ∧ ((imageRecord l m x).drop 5).take 3 = [byte x.state.code, byte x.generation, byte x.misses]
    ∧ (∀ r, x.reading = some r →
        (imageRecord l m x)[8]? =
            some (byte (1 + 2 * r.clamped.toNat + 4 * x.clash.toNat + 8 * x.override.isSome.toNat))
          ∧ ((imageRecord l m x).drop 9).take 14 =
              be4 (msOfTicks r.goodAt) ++ be2 r.q ++ be2 r.ts ++ be2 r.tr ++ be2 r.v ++ be2 (r.dp.getD 65535))
    ∧ (x.reading = none →
        (imageRecord l m x)[8]? = some (byte (4 * x.clash.toNat + 8 * x.override.isSome.toNat))
          ∧ ((imageRecord l m x).drop 9).take 14 = List.replicate 14 255)
    ∧ (imageRecord l m x)[23]? = some (byte ((x.status.map BitVec.toNat).getD 255)))
  ∧ (∀ r : Response,
    let body : List Byte := [byte (r.payload.length + 8), byte r.tag, byte r.request, byte r.code.code] ++ r.payload
    r.frame = [0x5A, 0xC3] ++ body ++ be2 (crc16 body).toNat)
  ∧ [ResponseCode.ok, .busy, .denied, .notLive, .badIndex, .inUse, .duplicate, .held, .qfull, .fallback, .notReady, .shut,
      .empty, .inFlight, .unknown, .none].map (·.code) = [0, 1, 2, 3, 4, 5, 6, 7, 8, 9, 10, 11, 12, 13, 14, 15]
  ∧ (let digits : List Byte := [0x31, 0x32, 0x33, 0x34, 0x35, 0x36, 0x37, 0x38, 0x39]
    crc16 digits = 0x29B1 ∧ crc8 digits = 0xF7)

/-- READ_IMAGE refuses a first index above 119, clamps the count to 1..8 and the step to 1..16, and returns the records of
first, first + step and so on, up to the count and not above L119; it changes nothing beyond the answering of the port. -/
def Obligations.ReadImageReturnsAStride : Prop :=
  ∀ (p : PortId) (tag first count step : Nat) (s : State), s.Opened p →
    (120 ≤ first →
      exec (.readImage p tag first count step) s =
        .next ((s.received p).answers p (codeResponse tag 0x11 .badIndex)))
    ∧ (first < 120 →
      ∃ ls : List Station,
        (∀ k, (ls[k]?).map (·.val) =
          if k < max 1 (min count 8) ∧ first + k * max 1 (min step 16) < 120 then some (first + k * max 1 (min step 16))
          else none)
        ∧ exec (.readImage p tag first count step) s =
          .next ((s.received p).answers p (okResponse tag 0x11
            ([byte first, byte ls.length, byte (max 1 (min step 16))]
              ++ ls.flatMap fun l => imageRecord l (s.map l) (s.image l)))))

/-! ## Outcomes (R80, R127, R131, R158, R159) -/

/-- READ_OUTCOMES returns the overrun mark and every entry and empties the list. An outcome is added at the end; where the
list holds 8 the oldest entry is discarded and the overrun mark set. In EACH every addition raises CMD. Beyond the list, the
mark and the flag an addition changes nothing of the port. Model's choices in it: log entry 7. -/
def Obligations.OutcomeListKeepsEight : Prop :=
  (∀ (p : PortId) (tag : Nat) (s : State), s.Opened p →
    exec (.readOutcomes p tag) s =
      .next (((s.received p).setPort p { (s.received p).port p with outcomes := [], overrun := false }).answers p
        (okResponse tag 0x15 ([byte (s.port p).overrun.toNat, byte (s.port p).outcomes.length]
          ++ (s.port p).outcomes.flatMap fun o =>
            [byte o.index.val, byte o.item.code] ++ be2 (o.value.getD 65535) ++ [byte o.outcome.code]
              ++ be4 (msOfTicks o.at_)))))
  ∧ ∀ (x : Port) (o : OutcomeEntry),
    (x.outcomes.length < 8 →
      (x.addOutcome o).outcomes = x.outcomes ++ [o] ∧ (x.addOutcome o).overrun = x.overrun)
    ∧ (x.outcomes.length = 8 →
      (x.addOutcome o).outcomes = x.outcomes.tail ++ [o] ∧ (x.addOutcome o).overrun = true)
    ∧ (x.notify = .each → hasFlag (x.addOutcome o).flags .cmd)
    ∧ (x.notify = .drained → (x.addOutcome o).flags = x.flags)
    ∧ x.addOutcome o =
      { x with
        outcomes := (x.addOutcome o).outcomes
        overrun := (x.addOutcome o).overrun
        flags := if x.notify = .each then x.flags ||| .cmd else x.flags }

/-- The outcome of a port's entry goes to that port's list and, where item and value are those of the port's override of the
station, to its delivery state; CMD is raised on each in EACH, and in DRAINED when the port holds no further entry. An entry
already reported by a release adds nothing. The limiter takes an outcome only while its entry is PENDING with the outcome's
value, and then by R74's table. An entry of MODULE reports to no one. Model's choices in it: log entry 25. -/
def Obligations.OutcomesGoToTheirOriginator : Prop :=
  ∀ (s : State) (e : CommandEntry) (o : CommandEnd),
    (e.originator = .module → s.deliver e o = s)
    ∧ (e.originator = .limiter →
      ((s.limit e.index).state ≠ .pending e.value → s.deliver e o = s)
      ∧ ((s.limit e.index).state = .pending e.value →
        (o = .done → ∀ c, e.value = some c → s.deliver e o = s.setLimit e.index { state := .active c, recovery := 0 })
        ∧ (o = .done → e.value = none → s.deliver e o = s.setLimit e.index { state := .none, recovery := 0 })
        ∧ (o = .refused →
          s.deliver e o =
            s.setLimit e.index { state := .blocked e.value, recovery := (s.limit e.index).recovery })
        ∧ (o = .noReply ∨ o = .dropped → s.deliver e o = s.setLimit e.index { state := .none, recovery := 0 })))
    ∧ ∀ p, e.originator = .port p →
      let t := s.deliver e o
      let left := portEntries (s.queue .a) p + portEntries (s.queue .b) p
      (e.releaseReported = false →
        (t.port p).outcomes = ((s.port p).addOutcome ⟨e.index, e.item, e.value, o, s.clock⟩).outcomes
        ∧ (t.port p).overrun = ((s.port p).addOutcome ⟨e.index, e.item, e.value, o, s.clock⟩).overrun
        ∧ ((s.port p).notify = .each ∨ left = 0 → (t.port p).flags = (s.port p).flags ||| .cmd)
        ∧ ((s.port p).notify = .drained → left ≠ 0 → (t.port p).flags = (s.port p).flags)
        ∧ (∀ ov, (s.image e.index).override = some ov →
            (t.image e.index).override =
              some (if ov.owner = p ∧ ov.item = e.item ∧ ov.value = e.value then
                { ov with delivery := if o = .done then .applied else .refused } else ov))
        ∧ ((s.image e.index).override = none → t.image e.index = s.image e.index))
      ∧ (e.releaseReported = true →
        t = if (s.port p).notify = .drained ∧ left = 0 then s.setPort p { s.port p with flags := (s.port p).flags ||| .cmd }
          else s)
      ∧ WorkFrame s t ∧ t.trunkA = s.trunkA ∧ t.trunkB = s.trunkB ∧ t.limits = s.limits
      ∧ (∀ q, q ≠ p → t.port q = s.port q) ∧ ∀ l, l ≠ e.index → t.image l = s.image l

/-! ## Port supervision (R161 to R167, R172 to R174) -/

/-- HELLO, by the state of the port: OPENING with a LONG window; leaving LIVE its offer becomes absent and its overrides are
released one after the other, each as LapseReleasesAnOverride says; a SHUT port becomes LAPSED. The failure counter and the
window length are kept, and the response tells them. Model's choices in it: log entries 6, 7. -/
def Obligations.HelloOpensThePort : Prop :=
  ∀ (p : PortId) (tag : Nat) (s : State), s.Free p →
    let x := (s.received p).port p
    let long : Window := { kind := .long, startMs := s.nowMs, lengthMs := 30000 }
    let payload : Nat → List Byte := fun st =>
      [byte p.val, byte (profileCode x.profile), byte st, byte x.failures, byte x.windowLen]
    (x.state = .closed ∨ x.state = .opening ∨ x.state = .lapsed →
      exec (.hello p tag) s =
        .next (((s.received p).setPort p { x with state := .opening, window := some long }).answers p
          (okResponse tag 0x01 (payload 1))))
    ∧ (x.state = .shut →
      exec (.hello p tag) s =
        .next (((s.received p).setPort p { x with state := .lapsed, window := some long }).answers p
          (okResponse tag 0x01 (payload 3))))
    ∧ (x.state = .live →
      ∃ t, exec (.hello p tag) s = .next (t.answers p (okResponse tag 0x01 (payload 1)))
        ∧ t = (((s.received p).setPort p { x with state := .opening, window := some long }).setOffer p none).releasedAll p
        ∧ ReleasesAll p s t
        ∧ WorkFrame (((s.received p).setOffer p none).setPort p { x with state := .opening, window := some long }) t)

/-- REFRESH makes an OPENING or LAPSED port LIVE and restarts the window of a LIVE port in its open half, each time with the
length W holds; in the closed half it is a failure, which releases the port's overrides one after the other, each as
LapseReleasesAnOverride says, and the response OK tells the state it leaves. Model's choices in it: log entries 7, 21. -/
def Obligations.RefreshIsJudgedByItsTime : Prop :=
  ∀ (p : PortId) (tag : Nat) (s : State), s.Opened p →
    let x := (s.received p).port p
    let restarted :=
      exec (.refresh p tag) s =
        .next (((s.received p).setPort p { x with
          state := .live
          window := some { kind := .refresh, startMs := s.nowMs, lengthMs := x.windowLen * 1000 } }).answers p
          (okResponse tag 0x02 ([2, byte x.failures, 1] ++ be4 (x.windowLen * 1000))))
    (x.state = .opening ∨ x.state = .lapsed → restarted)
    ∧ ∀ w, x.state = .live → x.window = some w → w.kind = .refresh →
      (w.startMs + w.lengthMs / 2 ≤ s.nowMs → restarted)
      ∧ (s.nowMs < w.startMs + w.lengthMs / 2 →
        ∃ t, FailsBetween p (s.received p) t
          ∧ exec (.refresh p tag) s = .next (t.answers p (okResponse tag 0x02
            (if x.failures < 15 then [3, byte (x.failures + 1), 1] ++ be4 30000
              else [4, byte x.failures, 0] ++ be4 4294967295))))

/-- The expiry of the LONG window of an OPENING or LAPSED port, and of the REFRESH window of a LIVE port, is a failure at the
first tick at which the window's milliseconds have passed, or later; that of a LIVE port makes its offer absent and releases
its overrides one after the other, each as LapseReleasesAnOverride says. Model's choices in it: log entries 5, 21. -/
def Obligations.WindowExpiryIsAFailure : Prop :=
  (∀ (p : PortId) (w : Window) (s : State), s.powered = true → (s.port p).window = some w →
    ((s.port p).state = .opening ∨ (s.port p).state = .lapsed → w.kind = .long →
      ∃ t, exec (.longWindowExpiry p) s = .next t
        ∧ FailsBetween p (s.passed (ticksOfMs (w.startMs + w.lengthMs))) t)
    ∧ ((s.port p).state = .live → w.kind = .refresh →
      ∃ t, exec (.refreshWindowExpiry p) s = .next t
        ∧ FailsBetween p (s.passed (ticksOfMs (w.startMs + w.lengthMs))) t))
  ∧ ∀ ms tick, ms ≤ msOfTicks tick ↔ ticksOfMs ms ≤ tick

/-- The release of one override of a port that has left LIVE: its own command, where it is waiting, is removed; either way the
owner's list gains one DROPPED entry for it; the field becomes absent; and NONE for the item is queued by MODULE, where the
queue takes it. A waiting command that the NONE displaces ends DROPPED, reported to its originator. CMD is raised with each of
these outcomes in EACH, and in DRAINED on a port whose entries have thereby reached none. Model's choices in it: log entry 20.
-/
def Obligations.LapseReleasesAnOverride : Prop :=
  ∀ (s : State) (l : Station) (ov : Override), (s.image l).override = some ov →
    let tr := (s.map l).trunk
    let q := s.queue tr
    let own : CommandEntry → Bool := fun e =>
      e.waiting && e.index == l && e.item == ov.item && e.value == ov.value && e.originator == .port ov.owner
    let free := newEntry l ov.item none .module
    let told : OutcomeEntry := ⟨l, ov.item, ov.value, .dropped, s.clock⟩
    let t := s.releaseOverride l ov
    QueueSound q →
    (t.image l).override = none
    ∧ (∀ e ∈ q, own e = true → e.releaseReported = false →
      t.queue tr = q.erase e ++ [free] ∧ (t.port ov.owner).outcomes = ((s.port ov.owner).addOutcome told).outcomes)
    ∧ ((∀ e ∈ q, own e = false) →
      told ∈ (t.port ov.owner).outcomes
      ∧ (TakesEntry q free (t.queue tr)
        ∨ ((∀ e ∈ q, waitingKey l ov.item e = false) ∧ 16 ≤ q.length ∧ t.queue tr = q))
      ∧ ((∀ e ∈ q, waitingKey l ov.item e = false) →
        (t.port ov.owner).outcomes = ((s.port ov.owner).addOutcome told).outcomes))
    ∧ ((∀ e ∈ q, own e = true → e.releaseReported = false) →
      let displaced := q.filter fun e => waitingKey l ov.item e && !own e
      DropsReach displaced (fun p => if p = ov.owner then [told] else []) 0 s t
      ∧ ∀ k, t.limit k = clearedBy displaced k (s.limit k))
    ∧ (∀ r, r ≠ tr → t.queue r = s.queue r)
    ∧ WorkFrame s t ∧ ∀ k, k ≠ l → t.image k = s.image k

/-- ACK clears each named flag and no other, answers the flags that stand, and where it names WATCHDOG on a LIVE port sets the
failure counter to 0. SET_WINDOW writes W clamped to 2..60 and moves no running window; SET_MASK replaces the mask, without
CANDIDATE on a PLANT port; SET_NOTIFY writes the mode, and any other value is UNKNOWN. The ATTN line follows the flags and the
mask. Model's choices in it: log entries 6, 7, 26. -/
def Obligations.FlagsMasksAndWindows : Prop :=
  (∀ (p : PortId) (tag n : Nat) (s : State), s.Opened p →
    ∃ flags : FlagSet, (∀ i, i < 9 → flags.getLsbD i = ((s.port p).flags.getLsbD i && !n.testBit i))
      ∧ exec (.ack p tag n) s =
        .next (((s.received p).setPort p { (s.received p).port p with
          flags := flags
          failures := if n.testBit 5 = true ∧ (s.port p).state = .live then 0 else (s.port p).failures }).answers p
          (okResponse tag 0x05 [byte (flags.toNat / 256), byte flags.toNat])))
  ∧ (∀ (p : PortId) (tag n : Nat) (s : State), s.Opened p →
    exec (.setWindow p tag n) s =
      .next (((s.received p).setPort p { (s.received p).port p with windowLen := max 2 (min n 60) }).answers p
        (okResponse tag 0x03 [byte (max 2 (min n 60))]))
    ∧ (∃ mask : FlagSet,
      (∀ i, i < 9 → mask.getLsbD i = (n.testBit i && (i != 4 || (s.port p).profile = .operator)))
      ∧ exec (.setMask p tag n) s =
        .next (((s.received p).setPort p { (s.received p).port p with mask := mask }).answers p
          (okResponse tag 0x06 [byte (mask.toNat / 256), byte mask.toNat])))
    ∧ exec (.setNotify p tag 0) s =
        .next (((s.received p).setPort p { (s.received p).port p with notify := .each }).answers p
          (okResponse tag 0x07 [0]))
    ∧ exec (.setNotify p tag 1) s =
        .next (((s.received p).setPort p { (s.received p).port p with notify := .drained }).answers p
          (okResponse tag 0x07 [1]))
    ∧ (2 ≤ n →
      exec (.setNotify p tag n) s = .next ((s.received p).answers p (codeResponse tag 0x07 .unknown))))
  ∧ ∀ (s : State) (p : PortId), s.attn p = true ↔
      s.powered = true ∧ ∃ i, i < 9 ∧ (s.port p).flags.getLsbD i = true ∧ (s.port p).mask.getLsbD i = true

/-! ## The Dispatch Unit: offers and the fallback-clear mark (R42 to R44, R51) -/

/-- FALLBACK_CLEAR is NOT_READY while no PLANT port is LIVE, and otherwise OK, and in FALLBACK sets the mark. POST_OFFER
replaces the port's offer by the applied offer of its mode, its fields clamped, and echoes it with NONE in the fields of other
modes; an unknown mode leaves the offer. WITHDRAW_OFFER makes it absent, or answers NONE where there is none. -/
def Obligations.OffersAndFallbackClear : Prop :=
  (∀ (p : PortId) (tag : Nat) (s : State), s.Free p → (s.port p).state = .live →
    (¬s.HasLivePlant →
      exec (.fallbackClear p tag) s = .next ((s.received p).answers p (codeResponse tag 0x17 .notReady)))
    ∧ (s.HasLivePlant → s.mode = .fallback →
      exec (.fallbackClear p tag) s =
        .next (({ s.received p with clearMark := true } : State).answers p (okResponse tag 0x17 [])))
    ∧ (s.HasLivePlant → s.mode ≠ .fallback →
      exec (.fallbackClear p tag) s = .next ((s.received p).answers p (okResponse tag 0x17 []))))
  ∧ ∀ (p : PortId) (tag f cmin cmax rank ramp dis chg : Nat) (s : State), s.Plants p →
    let posted : Nat → Offer → List Byte → Prop := fun mode o echo =>
      exec (.postOffer p tag mode f cmin cmax rank ramp dis chg) s =
        .next (((s.received p).setOffer p (some o)).answers p (okResponse tag 0x20 (byte mode :: echo)))
    let top := min cmax 60000
    let low := min cmin top
    let order := max 1 (min rank 8)
    posted 0 .off (List.replicate 13 255)
    ∧ posted 1 (.fixed (min f 60000) low top)
        (be2 (min f 60000) ++ be2 low ++ be2 top ++ List.replicate 7 255)
    ∧ posted 2 (.follow low top order (min ramp 60000))
        ([255, 255] ++ be2 low ++ be2 top ++ [byte order] ++ be2 (min ramp 60000) ++ List.replicate 4 255)
    ∧ posted 3 (.store order (min dis 60000) (min chg 60000))
        (List.replicate 6 255 ++ [byte order, 255, 255] ++ be2 (min dis 60000) ++ be2 (min chg 60000))
    ∧ (∀ mode, 4 ≤ mode →
      exec (.postOffer p tag mode f cmin cmax rank ramp dis chg) s =
        .next ((s.received p).answers p (codeResponse tag 0x20 .unknown)))
    ∧ ((s.offer p).isSome = true →
      exec (.withdrawOffer p tag) s =
        .next (((s.received p).setOffer p none).answers p (okResponse tag 0x21 [])))
    ∧ (s.offer p = none →
      exec (.withdrawOffer p tag) s = .next ((s.received p).answers p (codeResponse tag 0x21 .none)))

/-! ## The Dispatch Unit: the dispatch (R25 to R35, R47 to R61) -/

/-- R47's table, but for the entry into FALLBACK: which mode an expiry reaches, that the timer starts its next period, and all
that the dispatch changes. In STARTING nothing is published. Otherwise the record becomes the current one, numbered one
higher, the current record the previous one, and DISPATCH is raised on every port in OPENING, LIVE or LAPSED. Model's choices
in it: log entries 5, 22. -/
def Obligations.DispatchFollowsTheMode : Prop :=
  ∀ s : State, s.powered = true →
    let now := max s.clock s.dispatchDue
    let u : State := { s with clock := now, dispatchDue := now + s.params.dispatchPeriod * 115200 }
    let published : Record → State → Prop := fun r t =>
      (∀ q, t.port q =
        { s.port q with
          flags := if (s.port q).state = .closed ∨ (s.port q).state = .shut then (s.port q).flags
            else (s.port q).flags ||| .dispatch })
      ∧ r.sequence = (s.sequence + 1) % 65536 ∧ r.time = now / 115200
    (s.mode = .starting → ¬s.HasLivePlant → exec .dispatchExpiry s = .next u)
    ∧ (((s.mode = .starting ∨ s.mode = .run) ∧ s.HasLivePlant)
        ∨ (s.mode = .fallback ∧ s.clearMark = true ∧ s.HasLivePlant) →
      ∃ r t, exec .dispatchExpiry s = .next t ∧ published r t ∧ r.mode = .run ∧ r.setpoint = t.setpoint
        ∧ t = { u with
            mode := .run
            clearMark := false
            setpoint := t.setpoint
            sequence := r.sequence
            previous := s.current
            current := some r
            ports := t.ports })
    ∧ (s.mode = .fallback → s.clearMark = false ∨ ¬s.HasLivePlant →
      ∃ r t, exec .dispatchExpiry s = .next t ∧ published r t ∧ r.mode = .fallback ∧ r.setpoint = s.setpoint
        ∧ t = { u with
            clearMark := false
            sequence := r.sequence
            previous := s.current
            current := some r
            ports := t.ports })

/-- At an expiry in RUN at which no PLANT port is LIVE, the network enters FALLBACK: FALLBACK is raised on every port, the
limiter queues the release of every cap it claims or has outstanding, where the queue takes it, and clears all its entries,
and a FALLBACK record is published whose share list is empty and whose U is D′. S is held. A waiting CAP that a release
displaces ends DROPPED, reported to its originator, in order of logical index; every other queue entry stays. Model's choices
in it: log entries 5, 22. -/
def Obligations.FallbackIsEntered : Prop :=
  ∀ s : State, s.powered = true → s.mode = .run → ¬s.HasLivePlant →
    let now := max s.clock s.dispatchDue
    let u : State := { s with clock := now, dispatchDue := now + s.params.dispatchPeriod * 115200 }
    let capped : Station → Bool := fun l =>
      match (s.limit l).state with
      | .pending _ | .active _ => true
      | .none | .blocked _ => false
    let displaced : List CommandEntry := ((List.finRange 120).filter capped).flatMap fun l =>
      (s.queue (s.map l).trunk).filter fun e => waitingKey l .cap e && e.originator != .module
    ∃ r t, exec .dispatchExpiry s = .next t
      ∧ r.mode = .fallback ∧ r.status = .fallback ∧ r.shares = [] ∧ r.unmet = r.adjusted ∧ r.setpoint = s.setpoint
      ∧ r.sequence = (s.sequence + 1) % 65536 ∧ r.time = now / 115200
      ∧ WorkFrame { u with
          mode := .fallback
          clearMark := false
          sequence := r.sequence
          previous := s.current
          current := some r } t
      ∧ (∀ q, hasFlag (t.port q).flags .fallback)
      ∧ (∀ q, (s.port q).state ≠ .closed → (s.port q).state ≠ .shut → hasFlag (t.port q).flags .dispatch)
      ∧ (∀ l, t.limit l = { state := .none, recovery := 0 })
      ∧ (∀ l, (∃ c, (s.limit l).state = .pending c) ∨ (∃ c, (s.limit l).state = .active c) →
          newEntry l .cap none .module ∈ t.queue (s.map l).trunk
            ∨ (16 ≤ (t.queue (s.map l).trunk).length
              ∧ ∀ e ∈ s.queue (s.map l).trunk, waitingKey l .cap e = false))
      ∧ (∀ tr, ∀ e ∈ s.queue tr,
          e ∈ t.queue tr ∨ (waitingKey e.index .cap e = true ∧ capped e.index = true ∧ (s.map e.index).trunk = tr))
      ∧ (∀ tr, ∀ e ∈ t.queue tr,
          e ∈ s.queue tr ∨ (e = newEntry e.index .cap none .module ∧ capped e.index = true ∧ (s.map e.index).trunk = tr))
      ∧ (QueueSound (s.queue .a) → QueueSound (s.queue .b) →
          (∀ l, t.image l = { s.image l with override := (s.image l).override.map (refusedBy displaced l) })
          ∧ ∃ v, DropsReach displaced (fun _ => []) 0 u v ∧ (∀ tr, v.queue tr = t.queue tr)
            ∧ ∀ q, t.port q =
              { v.port q with
                flags := (v.port q).flags ||| .fallback
                  ||| (if (s.port q).state = .closed ∨ (s.port q).state = .shut then 0 else FlagSet.dispatch) })

/-- The figures of every record an expiry publishes: the station loads, D and Q over the LIVE and STALE entries, D′ with the
loss allowance, the three counts and INCOMPLETE. -/
def Obligations.RecordFigures : Prop :=
  ∀ (s t : State), s.powered = true → exec .dispatchExpiry s = .next t → t.mode ≠ .starting →
    let counts : Station → Bool := fun l => (s.image l).state = .live || (s.image l).state = .stale
    let load : Reading → Nat := fun r => (r.q * (r.tr - r.ts) * 419 + 50000) / 100000
    let sum : (Reading → Nat) → Nat := fun f =>
      (stations.map fun l => if counts l then ((s.image l).reading.map f).getD 0 else 0).sum
    let count : StationState → Nat := fun st => (stations.filter fun l => (s.image l).state = st).length
    ∃ r, t.current = some r
      ∧ r.demand = sum load ∧ r.flow = sum (·.q)
      ∧ r.adjusted = (r.demand * (1000 + s.params.loss) + 500) / 1000
      ∧ r.live = count .live ∧ r.stale = count .stale ∧ r.excluded = count .waiting + count .lost
      ∧ (r.incomplete = true ↔ 0 < r.excluded)

/-- The DP reset: in RUN a short index station raises S by step_up, spare pressure and valve at every index station lowers it
by step_down, anything else holds it, and the result is clamped to the band; an empty reference set holds S and marks the
record DP_BLIND; in any other mode S is held. -/
def Obligations.DpResetMovesOneStep : Prop :=
  ∀ (s t : State), s.powered = true → exec .dispatchExpiry s = .next t →
    let x := s.params
    let blind : Prop := ∀ l m v, ¬s.refers l m v
    let short : Prop := ∃ l m v, s.refers l m v ∧ m < 0
    let spare : Prop := ∀ l m v, s.refers l m v → (x.deadband : Int) < m ∧ v < 900
    (t.mode = .run → blind → t.setpoint = s.setpoint)
    ∧ (t.mode = .run → short → t.setpoint = clampNat (s.setpoint + x.stepUp) x.sMin x.sMax)
    ∧ (t.mode = .run → ¬blind → spare → t.setpoint = clampNat (s.setpoint - x.stepDown) x.sMin x.sMax)
    ∧ (t.mode = .run → ¬blind → ¬short → ¬spare → t.setpoint = clampNat s.setpoint x.sMin x.sMax)
    ∧ (t.mode ≠ .run → t.setpoint = s.setpoint)
    ∧ (t.mode ≠ .starting → ∃ r, t.current = some r ∧ r.setpoint = t.setpoint ∧ (r.dpBlind = true ↔ blind))

/-- The allocation serves FIXED, then FOLLOW, then STORE offers, each of the two in rank order with equal ranks in order of
port number: each FOLLOW offer gets its desired share from what the ones before it left, moved by its ramp, and each STORE
offer takes what it can of what is then left. U is what remains. -/
def Obligations.AllocationServesInOrder : Prop :=
  ∀ (parts : List (PortId × Offer)) (adjusted : Nat) (previous : PortId → Int),
    parts.Pairwise (fun a b => a.1 < b.1) →
    let a := allocate parts adjusted previous
    let fs := follows parts
    let ss := stores parts
    (∀ p x, (p, x) ∈ a.fixed ↔ ∃ f cmin cmax, (p, Offer.fixed f cmin cmax) ∈ parts ∧ x = clampInt f cmin cmax)
    ∧ (∀ o : Follow, o ∈ fs ↔ (o.port, Offer.follow o.cmin o.cmax o.rank o.ramp) ∈ parts)
    ∧ (∀ o : Store, o ∈ ss ↔ (o.port, Offer.store o.rank o.discharge o.charge) ∈ parts)
    ∧ fs.Pairwise (fun o n => o.rank < n.rank ∨ (o.rank = n.rank ∧ o.port < n.port))
    ∧ ss.Pairwise (fun o n => o.rank < n.rank ∨ (o.rank = n.rank ∧ o.port < n.port))
    ∧ a.follow.length = fs.length ∧ a.store.length = ss.length
    ∧ (∀ k o, fs[k]? = some o →
        ∃ desired share, a.follow[k]? = some (o.port, desired, share)
          ∧ desired = (let r := adjusted - shareSum a.fixed - ((a.follow.take k).map (·.2.1)).sum
              if (o.cmin : Int) ≤ r then min (o.cmax : Int) r else 0)
          ∧ share = (if desired = 0 then 0 else if o.ramp = 0 then desired
              else if previous o.port = 0 then min desired (o.cmin + o.ramp)
              else clampInt (clampInt desired (previous o.port - o.ramp) (previous o.port + o.ramp)) o.cmin o.cmax))
    ∧ (∀ k o, ss[k]? = some o →
        ∃ share, a.store[k]? = some (o.port, share)
          ∧ share = (let l := adjusted - shareSum a.fixed - (a.follow.map (·.2.2)).sum - shareSum (a.store.take k)
              if 0 < l then min l o.discharge else if l < 0 then max l (-(o.charge : Int)) else 0))
    ∧ a.unmet adjusted = adjusted - shareSum a.fixed - (a.follow.map (·.2.2)).sum - shareSum a.store

/-- The shares of a RUN record are those that AllocationServesInOrder gives the offers of the LIVE PLANT ports from D′ and
each port's previous share, the share of its entry in the record current at the expiry, 0 where there is none or that record
is of FALLBACK; U and the status are the allocation's, and the flow shares those of FlowIsDividedByRemainders. So every share
belongs to a PLANT port that was LIVE with an offer: a FIXED share lies within its band, a FOLLOW share is 0 or lies within
it, a STORE share within its limits, and an OFF share is 0; and every such port has its entry. -/
def Obligations.RunSharesLieWithinOffers : Prop :=
  ∀ (s t : State), s.powered = true → s.OwnersSound → exec .dispatchExpiry s = .next t → t.mode = .run →
    let previous : PortId → Int := fun p =>
      match s.current with
      | some c => if c.mode = .fallback then 0 else ((c.shares.find? (·.port = p)).map (·.share)).getD 0
      | none => 0
    ∃ r parts, t.current = some r
      ∧ parts.Pairwise (fun a b => a.1 < b.1)
      ∧ (∀ p o, (p, o) ∈ parts ↔ (s.port p).profile = .plant ∧ (s.port p).state = .live ∧ s.offer p = some o)
      ∧ (let a := allocate parts r.adjusted previous
        r.shares = withFlow (a.shares parts) r.flow ∧ r.unmet = a.unmet r.adjusted
          ∧ (r.unmet = 0 → r.status = .balanced) ∧ (0 < r.unmet → r.status = .short) ∧ (r.unmet < 0 → r.status = .surplus)
          ∧ ∀ e ∈ r.shares,
            (e.mode = .fixed → (e.port, e.share) ∈ a.fixed)
            ∧ (e.mode = .follow → ∃ desired, (e.port, desired, e.share) ∈ a.follow ∧ (e.ramped = true ↔ e.share ≠ desired))
            ∧ (e.mode = .store → (e.port, e.share) ∈ a.store))
      ∧ (∀ p, (∃ e ∈ r.shares, e.port = p)
          ↔ (s.port p).profile = .plant ∧ (s.port p).state = .live ∧ (s.offer p).isSome = true)
      ∧ ∀ e ∈ r.shares, ∃ o, s.offer e.port = some o ∧ e.mode = o.mode
        ∧ match o with
          | .off => e.share = 0 ∧ e.flow = 0 ∧ e.ramped = false
          | .fixed f cmin cmax => e.share = clampInt f cmin cmax ∧ (cmin : Int) ≤ e.share ∧ e.share ≤ cmax ∧ e.ramped = false
          | .follow cmin cmax _ _ => e.share = 0 ∨ ((cmin : Int) ≤ e.share ∧ e.share ≤ cmax)
          | .store _ dis chg => -(chg : Int) ≤ e.share ∧ e.share ≤ dis ∧ e.ramped = false

/-- The flow Q is divided among the positive shares: each gets the floor of its proportion, the units left over go one each to
the largest remainders, equal ones in order of port number, and the flow shares of the positive shares make Q. -/
def Obligations.FlowIsDividedByRemainders : Prop :=
  ∀ (es : List ShareEntry) (q : Nat), es.Pairwise (fun a b => a.port < b.port) →
    let total := (es.map fun e => e.share.toNat).sum
    let floor : ShareEntry → Nat := fun e => q * e.share.toNat / total
    let rest : ShareEntry → Nat := fun e => q * e.share.toNat % total
    withFlow es q = es.map (fun e => { e with flow := flowShare es q e })
    ∧ (∀ e ∈ es, e.share ≤ 0 → flowShare es q e = 0)
    ∧ (∀ e ∈ es, 0 < e.share → flowShare es q e = floor e ∨ flowShare es q e = floor e + 1)
    ∧ (∀ e ∈ es, ∀ f ∈ es, 0 < e.share → 0 < f.share →
        (rest e < rest f ∨ (rest e = rest f ∧ f.port < e.port)) →
        flowShare es q e = floor e + 1 → flowShare es q f = floor f + 1)
    ∧ (0 < total → (es.map fun e => flowShare es q e).sum = q)

/-! ## The limiter (R65 to R74) -/

/-- LIMITER_EXPIRY: in STARTING and FALLBACK nothing but the next period; in RUN an evaluation as well, entry by entry in
order of logical index, each as LimiterDecidesByItsTables says. It touches the limiter entries and the queues alone, and
passes over every entry that is not in scope. Model's choices in it: log entries 5, 22. -/
def Obligations.LimiterWorksInRun : Prop :=
  ∀ s : State, s.powered = true →
    let now := max s.clock s.limiterDue
    let u : State := { s with clock := now, limiterDue := now + s.params.limiterPeriod * 115200 }
    (s.mode ≠ .run → exec .limiterExpiry s = .next u)
    ∧ (s.mode = .run →
      ∃ t, exec .limiterExpiry s = .next t ∧ t = (List.finRange 120).foldl State.evaluateEntry u
        ∧ t = { u with
            limits := t.limits
            trunkA := { s.trunkA with queue := t.trunkA.queue }
            trunkB := { s.trunkB with queue := t.trunkB.queue } }
        ∧ ∀ l, ¬s.ScopedNow l → t.limit l = s.limit l)

/-- What an evaluation does with one entry: nothing where it is not in scope, and otherwise the rows of R69 to R72, with R73's
treatment of a command that a full queue does not take. Model's choices in it: log entry 30. -/
def Obligations.LimiterDecidesByItsTables : Prop :=
  ∀ (s : State) (l : Station) (r : Reading), (s.image l).reading = some r →
    let x := s.params
    let m := s.map l
    let e := s.limit l
    let low := isLowNow x m r
    let recovered := isRecoveredNow x r
    let cap := capNow x m r
    let eligible : Prop := m.exempt = false ∧ 0 < m.qc
    let far : Nat → Prop := fun c => c + x.capstep ≤ cap ∨ cap + x.capstep ≤ c
    let shown : Nat → Prop := fun bit => ∃ st : StatusSet, (s.image l).status = some st ∧ st.getLsbD bit = true
    let t := s.evaluateEntry l
    let keeps : LimitEntry → Prop := fun n => t = s.setLimit l n
    let asNone : Prop :=
      (low → LimiterQueues s l (some cap) 0 t)
      ∧ (¬low → shown 3 → LimiterQueues s l none 0 t)
      ∧ (¬low → ¬shown 3 → keeps { state := .none, recovery := 0 })
    (¬s.ScopedNow l → t = s)
    ∧ (s.ScopedNow l →
      (e.state = .none → asNone)
      ∧ (∀ c, e.state = .pending (some c) →
        (¬eligible → LimiterQueues s l none 0 t)
        ∧ (low → far c → LimiterQueues s l (some cap) 0 t)
        ∧ (eligible → ¬(low ∧ far c) → keeps e))
      ∧ (e.state = .pending none →
        (low → LimiterQueues s l (some cap) 0 t) ∧ (¬low → keeps e))
      ∧ (∀ c, e.state = .active c →
        (¬eligible → LimiterQueues s l none 0 t)
        ∧ (low → far c → LimiterQueues s l (some cap) 0 t)
        ∧ (low → ¬far c → keeps { e with recovery := 0 })
        ∧ (eligible → ¬low → recovered → 2 ≤ e.recovery → LimiterQueues s l none (min 3 (e.recovery + 1)) t)
        ∧ (eligible → ¬low → recovered → e.recovery < 2 → keeps { e with recovery := e.recovery + 1 })
        ∧ (eligible → ¬low → ¬recovered → keeps { e with recovery := 0 }))
      ∧ (∀ c, e.state = .blocked c → (shown 0 → keeps e) ∧ (¬shown 0 → asNone)))

/-! ## Queues, overrides and cancels (R77 to R82, R120, R121, R129, R130) -/

/-- An entry offered to a queue takes the place of the waiting entry of its key, which then ends without an outcome where the
originator is the same and DROPPED otherwise; or it is appended; or the queue is full for it. -/
def Obligations.OfferedEntryIsTakenByItsKey : Prop :=
  ∀ (s : State) (t : TrunkId) (l : Station) (item : Item) (value : Option Nat) (originator : Originator),
    QueueSound (s.queue t) →
    let e := newEntry l item value originator
    let taken := s.offerCommand t l item value originator
    (∀ i old, (s.queue t)[i]? = some old → waitingKey l item old = true →
      let u := s.setQueue t ((s.queue t).set i e)
      taken = some (if old.originator = originator then u else u.deliver old .dropped))
    ∧ ((∀ d ∈ s.queue t, waitingKey l item d = false) →
      ((s.queue t).length < 16 → taken = some (s.setQueue t (s.queue t ++ [e])))
      ∧ ((s.queue t).length = 16 → taken = none))

/-- R77's order of refusals for OVERRIDE, each of which changes nothing: index or UNBOUND entry, item, owner, room. The room
counts a place for each entry added that takes no waiting entry's place, and the place of the limiter's waiting CAP that a
placement removes. Model's choices in it: log entries 7, 20. -/
def Obligations.OverrideRefusals : Prop :=
  ∀ (p : PortId) (tag value : Nat) (s : State), s.Operates p →
    let refusedBy : Nat → Nat → ResponseCode → Prop := fun index item c =>
      exec (.override p tag index item value) s = .next ((s.received p).answers p (codeResponse tag 0x40 c))
    (∀ index item, 120 ≤ index → refusedBy index item .badIndex)
    ∧ ∀ l : Station,
      (∀ item, (s.image l).state = .unbound → refusedBy l.val item .badIndex)
      ∧ ((s.image l).state ≠ .unbound →
        (∀ item, item ≠ 1 → item ≠ 2 → refusedBy l.val item .unknown)
        ∧ ∀ it, it = .cap ∨ it = .hold →
          (∀ ov, (s.image l).override = some ov → ov.owner ≠ p → refusedBy l.val it.code .held)
          ∧ (let q := s.queue (s.map l).trunk
            let freed := if ∃ e ∈ q, waitingKey l .cap e = true ∧ e.originator = .limiter then 1 else 0
            QueueSound q →
            ((s.image l).override = none → 16 + freed < q.length + placesNeeded q l it →
              refusedBy l.val it.code .qfull)
            ∧ ∀ ov, (s.image l).override = some ov → ov.owner = p →
              16 < q.length + placesNeeded q l it + (if ov.item = it then 0 else placesNeeded q l ov.item) →
              refusedBy l.val it.code .qfull))

/-- OVERRIDE taken: the field holds owner, item and clamped value, PENDING; the command is queued. A placement removes the
limiter's waiting CAP and clears its entry; a replacement by another item first queues NONE for the old item. A waiting
command of another originator that is displaced ends DROPPED, reported to it; one of the port's own ends without an outcome.
Model's choices in it: log entries 7, 20. -/
def Obligations.OverrideIsTaken : Prop :=
  ∀ (p : PortId) (tag value : Nat) (s : State) (l : Station) (it : Item), s.Operates p → (s.image l).state ≠ .unbound →
    it = .cap ∨ it = .hold →
    let tr := (s.map l).trunk
    let q := s.queue tr
    let v := if value = 65535 then none else some (min value (if it = .cap then 8000 else 1000))
    let mine : Override := { owner := p, item := it, value := v, delivery := .pending }
    let new := newEntry l it v (.port p)
    let taken : State → Prop := fun t =>
      exec (.override p tag l.val it.code value) s =
          .next (t.answers p (okResponse tag 0x40 (byte it.code :: be2 (v.getD 65535))))
        ∧ (t.image l).override = some mine ∧ WorkFrame (s.received p) t
        ∧ (∀ k, k ≠ l → t.image k = s.image k ∧ t.limit k = s.limit k)
        ∧ (∀ r, r ≠ tr → t.queue r = s.queue r)
    let displaced : Item → List CommandEntry := fun item => q.filter fun e => waitingKey l item e && e.originator != .port p
    let drops : List CommandEntry → State → Prop := fun gone t =>
      DropsReach gone (fun _ => []) 0 (s.received p) t
        ∧ (∀ ov, (s.image l).override = some ov → t.limit l = clearedBy gone l (s.limit l))
    QueueSound q →
    ((s.image l).override = none →
      let cap : CommandEntry → Bool := fun e => waitingKey l .cap e && e.originator == .limiter
      (q.filter (!cap ·)).length + placesNeeded (q.filter (!cap ·)) l it ≤ 16 →
      ∃ t, taken t ∧ t.limit l = { state := .none, recovery := 0 } ∧ TakesEntry (q.filter (!cap ·)) new (t.queue tr)
        ∧ drops (displaced it) t)
    ∧ (∀ ov, (s.image l).override = some ov → ov.owner = p →
      (ov.item = it → q.length + placesNeeded q l it ≤ 16 →
        ∃ t, taken t ∧ TakesEntry q new (t.queue tr) ∧ drops (displaced it) t)
      ∧ (ov.item ≠ it → q.length + placesNeeded q l it + placesNeeded q l ov.item ≤ 16 →
        ∃ t mid, taken t ∧ TakesEntry q (newEntry l ov.item none (.port p)) mid ∧ TakesEntry mid new (t.queue tr)
          ∧ drops (displaced ov.item ++ displaced it) t))

/-- RELEASE is judged by index, override, owner and room, in this order; taken, it makes the field absent and queues NONE for
the override's item, in the place of the override's own command where that is still waiting. A waiting command of another
originator that is displaced ends DROPPED, reported to it; one of the port's own ends without an outcome. Model's choices in
it: log entry 7. -/
def Obligations.ReleaseQueuesNone : Prop :=
  ∀ (p : PortId) (tag : Nat) (s : State), s.Operates p →
    let refusedBy : Nat → ResponseCode → Prop := fun index c =>
      exec (.release p tag index) s = .next ((s.received p).answers p (codeResponse tag 0x41 c))
    (∀ index, 120 ≤ index → refusedBy index .badIndex)
    ∧ ∀ l : Station,
      ((s.image l).override = none → refusedBy l.val .none)
      ∧ ∀ ov, (s.image l).override = some ov →
        (ov.owner ≠ p → refusedBy l.val .held)
        ∧ (ov.owner = p →
          let tr := (s.map l).trunk
          let q := s.queue tr
          (16 < q.length + placesNeeded q l ov.item → refusedBy l.val .qfull)
          ∧ (q.length + placesNeeded q l ov.item ≤ 16 →
            ∃ t, exec (.release p tag l.val) s = .next (t.answers p (okResponse tag 0x41 []))
              ∧ t.image l = { s.image l with override := none }
              ∧ TakesEntry q (newEntry l ov.item none (.port p)) (t.queue tr)
              ∧ (∀ r, r ≠ tr → t.queue r = s.queue r)
              ∧ (QueueSound q →
                let displaced := q.filter fun e => waitingKey l ov.item e && e.originator != .port p
                DropsReach displaced (fun _ => []) 0 (s.received p) t ∧ ∀ k, t.limit k = clearedBy displaced k (s.limit k))
              ∧ WorkFrame (s.received p) t ∧ ∀ k, k ≠ l → t.image k = s.image k))

/-- CANCEL removes the waiting entry of the key, which ends DROPPED, unless it is another port's; it is answered IN_FLIGHT
where only an entry in flight has the key and NONE where none has. Model's choices in it: log entry 7. -/
def Obligations.CancelRemovesWaitingEntry : Prop :=
  ∀ (p : PortId) (tag : Nat) (s : State), s.Operates p →
    let refusedBy : Nat → Nat → ResponseCode → Prop := fun index item c =>
      exec (.cancel p tag index item) s = .next ((s.received p).answers p (codeResponse tag 0x42 c))
    (∀ index item, 120 ≤ index → refusedBy index item .badIndex)
    ∧ ∀ l : Station,
      (∀ item, (s.image l).state = .unbound → refusedBy l.val item .badIndex)
      ∧ ((s.image l).state ≠ .unbound →
        (∀ item, item = 0 ∨ 3 < item → refusedBy l.val item .unknown)
        ∧ ∀ it : Item,
          let tr := (s.map l).trunk
          let q := s.queue tr
          QueueSound q →
          (∀ e ∈ q, waitingKey l it e = true →
            (∀ o, e.originator = .port o → o ≠ p → refusedBy l.val it.code .held)
            ∧ ((∀ o, e.originator = .port o → o = p) →
              exec (.cancel p tag l.val it.code) s =
                .next ((((s.received p).setQueue tr (q.erase e)).deliver e .dropped).answers p
                  (okResponse tag 0x42 []))))
          ∧ ((∀ e ∈ q, waitingKey l it e = false) →
            ((∃ e ∈ q, e.index = l ∧ e.item = it) → refusedBy l.val it.code .inFlight)
            ∧ ((∀ e ∈ q, e.index = l → e.item ≠ it) → refusedBy l.val it.code .none)))

/-! ## The Station Table (R2, R3, R12 to R15, R21, R22, R139) -/

/-- WRITE_MAP's refusals in their order, and what a write does that passes: the map part is written, clamped, and echoed; a
candidate at an address it binds is removed, which clears the overflow mark; and only a change of enabled, or of trunk,
address or twin of an enabled entry, is a binding change. Model's choices in it: log entries 6, 7. -/
def Obligations.MapWritesAreJudged : Prop :=
  ∀ (p : PortId) (tag index flags trunk address qc dpmin mark : Nat) (s : State), s.Configures p →
    let answered : ResponseCode → Prop := fun c =>
      exec (.writeMap p tag index flags trunk address qc dpmin mark) s =
        .next ((s.received p).answers p (codeResponse tag 0x30 c))
    (120 ≤ index → answered .badIndex)
    ∧ (2 ≤ trunk ∨ address = 0 ∨ 62 < address ∨ (flags.testBit 1 = true ∧ (address % 2 = 1 ∨ address = 62)) →
      answered .badIndex)
    ∧ ∀ (l : Station) (t : TrunkId), index = l.val → trunk = trunkCode t → 1 ≤ address → address ≤ 62 →
      (flags.testBit 1 = true → address % 2 = 0 ∧ address ≠ 62) →
      let m : MapPart :=
        { enabled := flags.testBit 0, trunk := t, address := address, twin := flags.testBit 1, qc := min qc 8000,
          index := flags.testBit 2, dpmin := min dpmin 6000, exempt := flags.testBit 3, customerTag := mark }
      let shared : Prop := m.enabled = true ∧ ∃ k, k ≠ l ∧ (s.map k).trunk = t ∧ ∃ a ∈ m.addresses, a ∈ (s.map k).addresses
      let old := s.map l
      let rebinds : Prop := old.enabled ≠ m.enabled
        ∨ (m.enabled = true ∧ (old.trunk ≠ m.trunk ∨ old.address ≠ m.address ∨ old.twin ≠ m.twin))
      let gone : Candidate → Bool := fun c => c.trunk = t ∧ c.address ∈ m.addresses
      let listed : State → State := fun u =>
        { u with
          candidates := s.candidates.filter (!gone ·), overflow := s.overflow && !s.candidates.any gone }
      (shared → answered .duplicate)
      ∧ (¬shared →
        exec (.writeMap p tag index flags trunk address qc dpmin mark) s =
          .next ((listed (if rebinds then (s.received p).bindingChange l m else (s.received p).setMap l m)).answers p
            (okResponse tag 0x30 m.bytes)))

/-- A binding change: the generation counts on, readings, status, misses and clash mark are gone, the state is WAITING or
UNBOUND, the limiter entry is cleared, an override is released, its owner told DROPPED, the waiting entries leave the queue of
the trunk the entry was bound to, each ending DROPPED, and an entry that was LOST raises STATION on every port. Where none of
the waiting entries is the override's own command, the release reports the one DROPPED itself, and an own command in flight
takes the release-reported mark; where one is, its removal is the report. CMD is raised with each of these outcomes in EACH,
and in DRAINED on a port whose entries have thereby reached none. Model's choices in it: log entry 20. -/
def Obligations.BindingChangeEffects : Prop :=
  ∀ (s : State) (l : Station) (m : MapPart),
    let tr := (s.map l).trunk
    let t := s.bindingChange l m
    let gone := waitingFor (s.queue tr) l
    let own : Override → CommandEntry → Bool := fun ov e =>
      e.index == l && e.item == ov.item && e.value == ov.value && e.originator == .port ov.owner
    let reports : Override → Bool := fun ov => gone.all (!own ov ·)
    t.image l =
      { state := if m.enabled then .waiting else .unbound
        generation := ((s.image l).generation + 1) % 256
        misses := 0
        reading := none
        status := none
        clash := false
        override := none }
    ∧ t.limit l = { state := .none, recovery := 0 }
    ∧ (∀ k, k ≠ l → t.image k = s.image k ∧ t.limit k = s.limit k)
    ∧ (∀ r, r ≠ tr → t.queue r = s.queue r)
    ∧ ((s.image l).override = none → t.queue tr = withoutWaiting (s.queue tr) l)
    ∧ (∀ ov, (s.image l).override = some ov →
      (reports ov = true →
        t.queue tr =
          (withoutWaiting (s.queue tr) l).map fun e =>
            if e.waiting = false ∧ own ov e = true then { e with releaseReported := true } else e)
      ∧ (reports ov = false → t.queue tr = withoutWaiting (s.queue tr) l))
    ∧ DropsReach gone
        (fun p =>
          ((s.image l).override.toList.filter fun ov => ov.owner == p && reports ov).map fun ov =>
            ⟨l, ov.item, ov.value, .dropped, s.clock⟩)
        (if (s.image l).state = .lost then .station else 0) s t
    ∧ ((s.image l).state = .lost → ∀ q, hasFlag (t.port q).flags .station)
    ∧ (∀ ov, (s.image l).override = some ov → QueueSound (s.queue tr) →
        (∀ e ∈ s.queue tr, e.waiting = true → e.releaseReported = false) →
        (⟨l, ov.item, ov.value, .dropped, s.clock⟩ : OutcomeEntry) ∈ (t.port ov.owner).outcomes)
    ∧ WorkFrame { s.setMap l m with images := t.images } t

/-- STALE_AGE_EXPIRY makes a LIVE entry STALE and changes nothing else of it. HOLD_LIMIT_EXPIRY takes a STALE entry to LOST:
it keeps its reading, its miss count and its override, which is REFUSED where its own command was waiting; its waiting entries
leave the queue, each with outcome DROPPED for its originator, the limiter included; and STATION is raised on every port. CMD
follows by the notify mode of each port. Model's choices in it: log entry 5. -/
def Obligations.ReadingTimersExpire : Prop :=
  ∀ (l : Station) (r : Reading) (s : State), s.powered = true → (s.image l).reading = some r →
    ((s.image l).state = .live →
      exec (.staleAgeExpiry l) s =
        .next ((s.passed (r.goodAt + s.params.staleAge * 115200)).setImage l { s.image l with state := .stale }))
    ∧ ((s.image l).state = .stale →
      let u := s.passed (r.goodAt + s.params.holdLimit * 115200)
      let tr := (s.map l).trunk
      ∃ t, exec (.holdLimitExpiry l) s = .next t
        ∧ t.image l =
            { s.image l with state := .lost, override := (s.image l).override.map (refusedBy (waitingFor (s.queue tr) l) l) }
        ∧ (∀ k, t.limit k = clearedBy (waitingFor (s.queue tr) l) k (s.limit k))
        ∧ DropsReach (waitingFor (s.queue tr) l) (fun _ => []) .station u t
        ∧ t.queue tr = withoutWaiting (s.queue tr) l
        ∧ (∀ q, hasFlag (t.port q).flags .station)
        ∧ (QueueSound (s.queue tr) → ∀ e ∈ s.queue tr, ∀ q, e.waiting = true → e.index = l → e.originator = .port q →
            e.releaseReported = false →
            (⟨l, e.item, e.value, .dropped, u.clock⟩ : OutcomeEntry) ∈ (t.port q).outcomes)
        ∧ (∀ k, k ≠ l → t.image k = s.image k)
        ∧ (∀ q, q ≠ tr → t.queue q = s.queue q)
        ∧ WorkFrame { u with images := t.images } t)

/-! ## Parameters and settings (R14, R31, R37, R152, R175 to R180) -/

/-- WRITE_PARAM applies each parameter clamped by the rule that owns it and echoes the applied value; a write of Smin or Smax
keeps the band in order and clamps S into it at once; no other parameter moves anything else, the two limits of the reading
ages aside. An unknown identifier is UNKNOWN. Model's choices in it: log entry 7. -/
def Obligations.ParametersAreClamped : Prop :=
  ∀ (p : PortId) (tag v : Nat) (s : State), s.Configures p →
    let x := s.params
    let answers : Nat → Nat → State → Prop := fun id applied t =>
      exec (.writeParam p tag id v) s =
        .next (t.answers p (okResponse tag 0x32 [byte id, byte (applied / 256), byte applied]))
    let writes : Nat → Nat → Params → Prop := fun id applied y => answers id applied ((s.received p).setParams y)
    let bandWrites : Nat → Nat → Params → Prop := fun id applied y =>
      answers id applied { (s.received p).setParams y with setpoint := clampNat s.setpoint y.sMin y.sMax }
    let within : Nat → Nat → Nat := fun lo hi => max lo (min v hi)
    let rate := if v < 19200 then 9600 else if v < 38400 then 19200 else if v < 57600 then 38400 else 57600
    let on : Bool := v ≠ 0
    writes 0x01 (within 1 60) { x with dispatchPeriod := within 1 60 }
    ∧ writes 0x02 (within 10 300) { x with limiterPeriod := within 10 300 }
    ∧ writes 0x05 (within 1 15) { x with faultMisses := within 1 15 }
    ∧ writes 0x06 (min v 150) { x with loss := min v 150 }
    ∧ writes 0x07 (within 500 6000) { x with sStart := within 500 6000 }
    ∧ bandWrites 0x08 (min (within 500 6000) x.sMax) { x with sMin := min (within 500 6000) x.sMax }
    ∧ bandWrites 0x09 (within 500 6000) { x with sMax := within 500 6000, sMin := min x.sMin (within 500 6000) }
    ∧ writes 0x0A (min v 500) { x with stepUp := min v 500 }
    ∧ writes 0x0B (min v 500) { x with stepDown := min v 500 }
    ∧ writes 0x0C (min v 1000) { x with deadband := min v 1000 }
    ∧ writes 0x0D (within 100 1500) { x with dTmin := within 100 1500 }
    ∧ writes 0x0E (min v 500) { x with hysteresis := min v 500 }
    ∧ writes 0x0F (min v 1000) { x with capfloor := min v 1000 }
    ∧ writes 0x10 (min v 1000) { x with capstep := min v 1000 }
    ∧ writes 0x11 rate { x with rateA := rate }
    ∧ writes 0x12 rate { x with rateB := rate }
    ∧ writes 0x13 on.toNat { x with haltOnCheckA := on }
    ∧ writes 0x14 on.toNat { x with haltOnCheckB := on }
    ∧ writes 0x15 on.toNat { x with autostart := on }
    ∧ ∀ id, id = 0 ∨ 0x15 < id →
      exec (.writeParam p tag id v) s = .next ((s.received p).answers p (codeResponse tag 0x32 .unknown))

/-- A write of the stale age or the hold limit keeps the hold limit at least 5 s above the stale age, and judges every entry
at once: a LIVE one whose reading has reached the stale age is STALE, and then a STALE one whose reading has reached the hold
limit is LOST, its waiting entries gone, each with outcome DROPPED for its originator, its override REFUSED where its own
command was among them, and STATION raised; no entry returns, and every other queue entry and override stands. The entries
that become LOST are taken in order of logical index. Model's choices in it: log entries 7, 29. -/
def Obligations.NewAgeLimitsRejudgeEntries : Prop :=
  ∀ (p : PortId) (tag v : Nat) (s : State), s.Configures p → s.params.Sound →
    let x := s.params
    let judged : Params → State → Prop := fun y t =>
      let reached : Station → Nat → Bool := fun l age =>
        ((s.image l).reading.map fun r => decide (r.goodAt + age * 115200 ≤ s.clock)).getD false
      let once : Station → StationState := fun l =>
        if (s.image l).state = .live ∧ reached l y.staleAge = true then .stale else (s.image l).state
      let lost : Station → Bool := fun l => once l = .stale && reached l y.holdLimit
      let gone : List CommandEntry :=
        ((List.finRange 120).filter lost).flatMap fun l => waitingFor (s.queue (s.map l).trunk) l
      WorkFrame { (s.received p).setParams y with images := t.images } t
      ∧ (∀ l,
        (lost l = true →
          t.image l = { s.image l with state := .lost, override := (s.image l).override.map (refusedBy gone l) })
        ∧ (lost l = false → t.image l = { s.image l with state := once l }))
      ∧ (∀ l, lost l = true → ∀ q, hasFlag (t.port q).flags .station)
      ∧ (∀ tr, t.queue tr =
          (s.queue tr).filter fun e => !(e.waiting && lost e.index && (s.map e.index).trunk == tr))
      ∧ (∀ l, t.limit l = clearedBy gone l (s.limit l))
      ∧ DropsReach gone (fun _ => []) (if ∃ l, lost l = true then .station else 0) (s.received p) t
      ∧ ((∀ l, lost l = false) → t.ports = (s.received p).ports)
    (let age := max 5 (min v 120)
      let y := { x with staleAge := age, holdLimit := max x.holdLimit (age + 5) }
      ∃ t, judged y t
        ∧ exec (.writeParam p tag 0x03 v) s =
          .next (t.answers p (okResponse tag 0x32 [0x03, byte (age / 256), byte age])))
    ∧ (let limit := max (x.staleAge + 5) (min v 3600)
      ∃ t, judged { x with holdLimit := limit } t
        ∧ exec (.writeParam p tag 0x04 v) s =
          .next (t.answers p (okResponse tag 0x32 [0x04, byte (limit / 256), byte limit])))

/-- SAVE captures the working settings and leaves the copy invalid; SAVE_COMPLETE makes the captured settings the copy, with
their check, and valid, clears SAVE in progress and CONFIG_DEFAULTED, and raises SAVE on every port. The copy is valid exactly
when it is whole and its check is the CRC-16 over its contents. Model's choices in it: log entries 3, 7, 14. -/
def Obligations.SaveCapturesAndCompletes : Prop :=
  (∀ (p : PortId) (tag : Nat) (s : State), s.Configures p →
    exec (.save p tag) s =
      .next (({ s.received p with
        saving := some { captured := s.work, takenAt := s.clock }
        copyWhole := false } : State).answers p (okResponse tag 0x33 [])))
  ∧ (∀ (s : State) (x : Saving), s.powered = true → s.saving = some x →
    let t := ({ s with
      copy := x.captured
      copyCheck := crc16 (Config.copyBytes x.captured)
      copyWhole := true
      saving := none
      configDefaulted := false } : State).flagged .save
    exec .saveComplete s = .next t ∧ t.copyValid = true)
  ∧ ∀ s : State, s.copyValid = true ↔ s.copyWhole = true ∧ s.copyCheck = crc16 (Config.copyBytes s.copy)

/-- FULL_RESET: the profiles come from the straps, the settings from the copy where it is valid and no save was cut short and
from the defaults of R177 and section 11.3 otherwise, each of them spelled out; every other piece of state takes its full-
reset value, and a trunk is RUNNING where autostart is on and its schedule holds a nonzero entry.
RESET_ASSERTED_OR_SUPPLY_LOST: no line is driven, a save in progress is cut short and leaves the copy invalid, and until the
next FULL_RESET no other command has any effect. Model's choices in it: log entries 14, 15, 16, 19. -/
def Obligations.FullResetAndHeldReset : Prop :=
  (∀ (s : State) (p0 p1 p2 p3 : Profile),
    let valid := s.copyValid && s.saving.isNone
    let work := if valid then s.copy else Settings.default
    let up : Schedule → Bool := fun sched => work.params.autostart && decide (∃ k, inSweep sched k)
    let fresh : Bool → Nat → Trunk := fun running rate =>
      { state := if running then .running else .stopped, txEnabled := true, rate := rate, fault := none, lineHeld := false
        pointer := none, sweeps := 0, commandMark := true, lastMismatch := none, sweepMismatch := false
        slot := none, exchange := none, queue := [] }
    ∃ t, exec (.fullReset p0 p1 p2 p3) s = .next t
      ∧ t.powered = true ∧ t.clock = 0 ∧ t.work = work ∧ t.saving = none
      ∧ t.copy = s.copy ∧ t.copyCheck = s.copyCheck ∧ t.copyWhole = (s.copyWhole && s.saving.isNone) ∧ t.copyValid = valid
      ∧ t.configDefaulted = !valid
      ∧ (valid = false →
        (∀ l, t.map l =
          { enabled := false, trunk := .a, address := 0, twin := false, qc := 0, index := false, dpmin := 0, exempt := false
            customerTag := 0 })
        ∧ (∀ r k, (t.schedule r).get k = { rule := .quiet, length := 0 })
        ∧ t.params =
          { dispatchPeriod := 5, limiterPeriod := 30, staleAge := 20, holdLimit := 300, faultMisses := 3, loss := 30
            sStart := 2000, sMin := 1200, sMax := 3500, stepUp := 50, stepDown := 20, deadband := 100
            dTmin := 500, hysteresis := 50, capfloor := 400, capstep := 20, rateA := 19200, rateB := 19200
            haltOnCheckA := false, haltOnCheckB := false, autostart := false })
      ∧ (∀ l, t.image l =
          { state := if (work.maps.get l).enabled then .waiting else .unbound
            generation := 0, misses := 0, reading := none, status := none, clash := false, override := none })
      ∧ (∀ l, t.limit l = { state := .none, recovery := 0 })
      ∧ t.trunkA = fresh (up work.schedA) work.params.rateA ∧ t.trunkB = fresh (up work.schedB) work.params.rateB
      ∧ t.candidates = [] ∧ t.overflow = false ∧ t.refusedA = [] ∧ t.refusedB = []
      ∧ (∀ p, t.offer p = none) ∧ t.current = none ∧ t.previous = none ∧ t.sequence = 0
      ∧ t.setpoint = clampNat work.params.sStart work.params.sMin work.params.sMax
      ∧ t.mode = .starting ∧ t.clearMark = false
      ∧ t.dispatchDue = work.params.dispatchPeriod * 115200 ∧ t.limiterDue = work.params.limiterPeriod * 115200
      ∧ (∀ p, t.port p =
          { profile := (#v[p0, p1, p2, p3] : Vector Profile 4).get p
            receiving := [], sending := none, owedBusy := none, notify := .each, outcomes := [], overrun := false
            flags := 0, mask := 0, state := .closed, windowLen := 10, window := none, failures := 0 })
      ∧ t.ties = s.ties ∧ t.pending = s.pending)
  ∧ (∀ s : State, ∃ t, exec .resetAsserted s = .next t
    ∧ t.powered = false ∧ t.saving = none ∧ t.copy = s.copy ∧ t.copyCheck = s.copyCheck
    ∧ t.copyWhole = (s.copyWhole && s.saving.isNone) ∧ t.copyValid = (s.copyValid && s.saving.isNone)
    ∧ (∀ r, t.trunk r = { s.trunk r with txEnabled := false, exchange := none, slot := none })
    ∧ (∀ p, t.port p = { s.port p with receiving := [], sending := none, owedBusy := none } ∧ t.attn p = false))
  ∧ ∀ (i : Instr) (s : State), s.powered = false → i ≠ .resetAsserted →
      (∀ p0 p1 p2 p3, i ≠ .fullReset p0 p1 p2 p3) → exec i s = .next s

/-- RESTART is answered OK, and the network state is reset when the last byte of that response has been sent: the images,
limiter entries, queues, Admission List, offers, records and mode take their full-reset values, the schedulers start over, a
STOPPING trunk becomes STOPPED with TRUNK raised, RESTART is raised on every port, and everything else is kept. A BUSY owed on
the port is sent next; where none is owed the port becomes FREE. Model's choices in it: log entries 5, 7, 32. -/
def Obligations.RestartResetsTheNetwork : Prop :=
  (∀ (p : PortId) (tag : Nat) (s : State), s.Operates p →
    exec (.restart p tag) s =
      .next ((s.received p).setPort p { (s.received p).port p with
        sending := some { response := okResponse tag 0x37 [], endAt := s.clock + 80, restarts := true } }))
  ∧ ∀ (p : PortId) (s : State) (x : Sending), s.powered = true → (s.port p).sending = some x → x.restarts = true →
    let now := max s.clock x.endAt
    let stops : Prop := (s.trunk .a).state = .stopping ∨ (s.trunk .b).state = .stopping
    ∃ t, exec (.responseComplete p) s = .next t
      ∧ (∀ r, t.trunk r =
          { s.trunk r with
            state := if (s.trunk r).state = .stopping then .stopped else (s.trunk r).state
            pointer := none, sweeps := 0, lastMismatch := none, sweepMismatch := false, slot := none, exchange := none
            queue := [] })
      ∧ (∀ l, t.limit l = { state := .none, recovery := 0 })
      ∧ (∀ l, t.image l =
          { state := if (s.map l).enabled then .waiting else .unbound
            generation := 0, misses := 0, reading := none, status := none, clash := false, override := none })
      ∧ (∀ q, t.offer q = none)
      ∧ (∀ q, t.port q =
          { s.port q with
            flags := (s.port q).flags ||| .restart ||| (if stops then FlagSet.trunk else 0)
            owedBusy := if q = p then none else (s.port q).owedBusy
            sending :=
              if q = p then
                (s.port p).owedBusy.map fun owed =>
                  { response := codeResponse owed.1 owed.2 .busy, endAt := now + 80, restarts := false }
              else (s.port q).sending })
      ∧ t = { s with
          clock := now
          images := t.images, limits := t.limits, trunkA := t.trunkA, trunkB := t.trunkB, offers := t.offers, ports := t.ports
          candidates := [], overflow := false, refusedA := [], refusedB := []
          current := none, previous := none, sequence := 0, mode := .starting, clearMark := false
          setpoint := clampNat s.params.sStart s.params.sMin s.params.sMax
          dispatchDue := now + s.params.dispatchPeriod * 115200
          limiterDue := now + s.params.limiterPeriod * 115200 }

/-! ## Trunks and schedules (R84, R92 to R99, R101, R104 to R116, R128) -/

/-- TRUNK_START, TRUNK_STOP and TRUNK_RESUME by the trunk's state. START loads the bit rate and begins a new pass; STOP waits
for an exchange in flight, and every entry into STOPPED raises TRUNK on every port; RESUME goes on from the pointer. A trunk
other than A or B is BAD_INDEX. Model's choices in it: log entries 7, 17. -/
def Obligations.TrunkRequestsFollowTheState : Prop :=
  ∀ (p : PortId) (tag : Nat) (s : State), s.Operates p →
    (∀ n, 2 ≤ n →
      exec (.trunkStart p tag n) s = .next ((s.received p).answers p (codeResponse tag 0x34 .badIndex))
      ∧ exec (.trunkStop p tag n) s = .next ((s.received p).answers p (codeResponse tag 0x35 .badIndex))
      ∧ exec (.trunkResume p tag n) s = .next ((s.received p).answers p (codeResponse tag 0x36 .badIndex)))
    ∧ ∀ t : TrunkId,
      let x := s.trunk t
      let empty : Prop := ∀ k, ¬inSweep (s.schedule t) k
      let start : State → Response → Prop := fun u r =>
        exec (.trunkStart p tag (trunkCode t)) s = .next (u.answers p r)
      let stop : State → Prop := fun u =>
        exec (.trunkStop p tag (trunkCode t)) s = .next (u.answers p (okResponse tag 0x35 []))
      let resume : State → Response → Prop := fun u r =>
        exec (.trunkResume p tag (trunkCode t)) s = .next (u.answers p r)
      let same := s.received p
      (x.state = .stopped → empty → start same (codeResponse tag 0x34 .empty))
      ∧ (x.state = .stopped → ¬empty →
        start (same.setTrunk t { x with
          state := .running, txEnabled := true, fault := none, slot := none
          rate := match t with | .a => s.params.rateA | .b => s.params.rateB
          pointer := none }) (okResponse tag 0x34 []))
      ∧ (x.state = .running → start same (okResponse tag 0x34 []))
      ∧ (x.state = .stopping ∨ x.state = .halted → start same (codeResponse tag 0x34 .notReady))
      ∧ (x.state = .running → x.exchange ≠ none → stop (same.setTrunk t { x with state := .stopping }))
      ∧ (x.state = .running → x.exchange = none →
        stop ((same.setTrunk t { x with state := .stopped, slot := none }).flagged .trunk))
      ∧ (x.state = .halted →
        stop ((same.setTrunk t { x with state := .stopped, slot := none }).flagged .trunk))
      ∧ (x.state = .stopping ∨ x.state = .stopped → stop same)
      ∧ (x.state = .halted → empty → resume same (codeResponse tag 0x36 .empty))
      ∧ (x.state = .halted → ¬empty →
        resume (same.setTrunk t { x with state := .running, txEnabled := true, fault := none, slot := none })
          (okResponse tag 0x36 []))
      ∧ (x.state ≠ .halted → resume same (codeResponse tag 0x36 .none))

/-- WRITE_SLOT is judged by trunk and entry, rule, and logical index, in this order; a write that passes replaces the entry
whole, its length clamped to its rule's minimum and to 60000 unless it is 0, and echoes it. Model's choices in it: log entries
6, 7. -/
def Obligations.SlotWritesAreClamped : Prop :=
  ∀ (p : PortId) (tag index length : Nat) (s : State), s.Configures p →
    let answered : Nat → Nat → Nat → ResponseCode → Prop := fun trunk entry rule c =>
      exec (.writeSlot p tag trunk entry rule index length) s =
        .next ((s.received p).answers p (codeResponse tag 0x31 c))
    (∀ trunk entry rule, 2 ≤ trunk ∨ 96 ≤ entry → answered trunk entry rule .badIndex)
    ∧ ∀ (t : TrunkId) (k : EntryIndex),
      (∀ rule, 7 ≤ rule → answered (trunkCode t) k.val rule .unknown)
      ∧ (∀ rule, rule = 0 ∨ rule = 1 ∨ rule = 3 → 120 ≤ index → answered (trunkCode t) k.val rule .badIndex)
      ∧ (let applied : Nat → Nat := fun low => if length = 0 then 0 else max low (min length 60000)
        let writes : Nat → SlotRule → Nat → Byte → Prop := fun code rule low shown =>
          exec (.writeSlot p tag (trunkCode t) k.val code index length) s =
            .next (((s.received p).setSlotEntry t k { rule := rule, length := applied low }).answers p
              (okResponse tag 0x31 ([byte code, shown] ++ be2 (applied low))))
        (∀ l : Station, index = l.val →
          writes 0 (.scan l) 264 (byte index) ∧ writes 1 (.twinHead l) 264 (byte index)
            ∧ writes 3 (.cmdOrScan l) 264 (byte index))
        ∧ writes 2 .twinTail 208 255 ∧ writes 4 .cmdOrQuiet 204 255 ∧ writes 5 .rollcall 848 255
        ∧ writes 6 .quiet 10 255)

/-- TX_STUCK and ECHO_LOST halt a trunk that is not STOPPED: the transmitter is off, the record names the fault, the slot's
entry and the frame, the exchange hands nothing on (a command's entry is dealt with as AbandonedCommandIsKept says), the
position is kept, and TRUNK is raised on every port. TX_STUCK on a STOPPED trunk leaves it STOPPED with the fault in its
record. LINE_HELD_SET and LINE_HELD_CLEARED only set and clear the mark, mark an exchange under way disturbed, and raise TRUNK
on every port. Model's choices in it: log entries 12, 23. -/
def Obligations.LineSupervision : Prop :=
  ∀ (t : TrunkId) (s : State), s.powered = true →
    let x := s.trunk t
    let frame : Option FrameKind := x.exchange.bind fun e => if e.withheld then none else some e.kind.frame
    let halted : FaultKind → State → Prop := fun kind u =>
      u.trunk t =
          { x with
            state := .halted, txEnabled := false, slot := none, exchange := none
            fault := some { kind := kind, at_ := s.clock, entry := x.slot.map (·.entry), frame := frame }
            queue := (u.trunk t).queue }
        ∧ (∀ q, hasFlag (u.port q).flags .trunk)
        ∧ (x.sendsCommand = false → u = ((s.setTrunk t (u.trunk t)).flagged .trunk) ∧ (u.trunk t).queue = x.queue)
        ∧ (x.sendsCommand = true →
          u = ((s.abandonCommand t).setTrunk t (u.trunk t)).flagged .trunk
            ∧ (u.trunk t).queue = (s.abandonCommand t).queue t)
        ∧ (∀ r, r ≠ t → u.trunk r = s.trunk r) ∧ WorkFrame (s.setTrunk t (u.trunk t)) u
    (x.txEnabled = true → x.state ≠ .stopped → ∃ u, exec (.txStuck t) s = .next u ∧ halted .txStuck u)
    ∧ (x.txEnabled = true → x.state = .stopped →
      exec (.txStuck t) s =
        .next ((s.setTrunk t { x with
          txEnabled := false
          fault := some { kind := .txStuck, at_ := s.clock, entry := none, frame := none } }).flagged .trunk))
    ∧ (∀ e, x.exchange = some e → e.withheld = false → e.sentAt = none →
      ∃ u, exec (.echoLost t) s = .next u ∧ halted .echoLost u)
    ∧ (x.lineHeld = false → (∀ e, x.exchange = some e → e.withheld = true ∨ e.sentAt.isSome = true) →
      exec (.lineHeldSet t) s =
        .next ((s.setTrunk t { x with
          lineHeld := true
          exchange := x.exchange.map fun e => { e with disturbed := true } }).flagged .trunk))
    ∧ (x.lineHeld = true →
      exec (.lineHeldCleared t) s = .next ((s.setTrunk t { x with lineHeld := false }).flagged .trunk))

/-- A command exchange abandoned by a halt: under an older generation the entry ends DROPPED; where a newer waiting entry has
its key, that one takes its place and the entry ends as a displaced one; otherwise the entry is waiting again in its own
place, its attempts as they stood, a twin's from its even half. -/
def Obligations.AbandonedCommandIsKept : Prop :=
  ∀ (s : State) (t : TrunkId) (i : Nat) (e : CommandEntry) (st : CommandStamp),
    QueueSound (s.queue t) → (s.queue t)[i]? = some e → e.stamp = some st →
    (st.generation ≠ (s.image e.index).generation →
      s.abandonCommand t = (s.setQueue t ((s.queue t).eraseIdx i)).deliver e .dropped)
    ∧ (st.generation = (s.image e.index).generation →
      (∀ j w, (s.queue t)[j]? = some w → waitingKey e.index e.item w = true → i < j →
        let u := s.setQueue t (((s.queue t).set i w).eraseIdx j)
        s.abandonCommand t = if e.originator = w.originator then u else u.deliver e .dropped)
      ∧ ((∀ w ∈ s.queue t, waitingKey e.index e.item w = false) →
        s.abandonCommand t =
          s.setQueue t ((s.queue t).set i { e with stamp := none, evenDone := false, evenStatus := none })))

/-- A slot starts on a RUNNING trunk without an exchange: it takes the next nonzero entry above the pointer, or the first,
which is a wrap where the pointer was set. A wrap counts the sweep and closes its mismatch record, and the frame is that of
the entry's rule (SlotSendsByItsRule). A schedule with no nonzero entry stops the trunk with the pointer NONE. Model's choices
in it: log entries 5, 17, 18. -/
def Obligations.SlotTakesTheNextEntry : Prop :=
  ∀ (t : TrunkId) (s : State), s.powered = true →
    let x := s.trunk t
    let bitTicks := 115200 / x.rate
    let u := s.passed ((x.slot.map fun sl => sl.startAt + sl.length * bitTicks).getD 0)
    x.state = .running → x.exchange = none →
    ((∀ k, ¬inSweep (s.schedule t) k) →
      exec (.slotStart t) s =
        .next ((u.setTrunk t { x with state := .stopped, slot := none, pointer := none }).flagged .trunk))
    ∧ ∀ k wraps, TakesSlot (s.schedule t) x.pointer k wraps →
        exec (.slotStart t) s =
          .next ((u.setTrunk t { x with
            pointer := some k
            sweeps := if wraps then (x.sweeps + 1) % 4294967296 else x.sweeps
            lastMismatch := if wraps = true ∧ x.sweepMismatch = false then none else x.lastMismatch
            sweepMismatch := if wraps = true ∨ x.pointer = none then false else x.sweepMismatch
            slot := some { entry := k, startAt := u.clock, length := ((s.schedule t).get k).length } }).slotFrame t k
            ((s.schedule t).get k).rule)

/-- What the slot of an entry does, by its rule and its station's map part: a SCAN of a single station, a PAIR of a twin with
its tail, a SCAN of the even half with a mismatch, a roll-call, or nothing; a mismatch raises TRUNK only where the last
mismatch entry held another value. A frame is withheld while the line is held. -/
def Obligations.SlotSendsByItsRule : Prop :=
  ∀ (s : State) (t : TrunkId) (k : EntryIndex),
    let x := s.trunk t
    let sends : ExchangeKind → Nat → List Byte → Trunk → Trunk := fun kind address request y =>
      { y with
        exchange := some
          { kind := kind, address := address, request := request, withheld := y.lineHeld, startAt := s.clock
            sentAt := none, heard := [], disturbed := false } }
    let frame : List Byte → List Byte := fun body => 0xA7#8 :: body ++ [crc8 body]
    let mismatched : Trunk → State := fun y =>
      let u := s.setTrunk t { y with sweepMismatch := true, lastMismatch := some k }
      if y.lastMismatch = some k then u else u.flagged .trunk
    let stamp : Station → Stamp := fun l => { index := l, generation := (s.image l).generation }
    let bound : Station → Prop := fun l => (s.map l).enabled = true ∧ (s.map l).trunk = t
    let reads : SlotRule → Station → Prop := fun rule l =>
      let a := (s.map l).address
      (bound l → (s.map l).twin = false →
        s.slotFrame t k rule = s.setTrunk t (sends (.scan (stamp l)) a (frame [byte a, 0x01]) x))
      ∧ (bound l → (s.map l).twin = true → s.slotFrame t k rule = mismatched x)
      ∧ (¬bound l → s.slotFrame t k rule = s)
    (∀ l, reads (.scan l) l)
    ∧ (∀ l, x.commandMark = true ∨ s.head t = none → reads (.cmdOrScan l) l)
    ∧ (x.commandMark = true ∨ s.head t = none → s.slotFrame t k .cmdOrQuiet = s)
    ∧ (∀ l, x.commandMark = false → s.slotFrame t k (.cmdOrScan l) = s.slotFrame t k .cmdOrQuiet ∨ s.head t = none)
    ∧ (∀ l,
      let a := (s.map l).address
      (¬bound l → s.slotFrame t k (.twinHead l) = s)
      ∧ (bound l → (s.map l).twin = false → s.slotFrame t k (.twinHead l) = mismatched x)
      ∧ (bound l → (s.map l).twin = true →
        (∀ j, k < j → inSweep (s.schedule t) j → (∀ i, k < i → i < j → ¬inSweep (s.schedule t) i) →
          ((s.schedule t).get j).rule = .twinTail →
          s.slotFrame t k (.twinHead l) =
            s.setTrunk t (sends (.pair (stamp l)) a (frame [byte a, 0x02]) { x with
              pointer := some j
              slot := x.slot.map fun sl => { sl with length := sl.length + ((s.schedule t).get j).length } }))
        ∧ ((∀ j, k < j → inSweep (s.schedule t) j → (∀ i, k < i → i < j → ¬inSweep (s.schedule t) i) →
            ((s.schedule t).get j).rule ≠ .twinTail) →
          s.slotFrame t k (.twinHead l) = mismatched (sends (.headScan (stamp l)) a (frame [byte a, 0x01]) x))))
    ∧ s.slotFrame t k .rollcall = s.setTrunk t (sends .rollcall 63 (frame [63, 0x04]) x)
    ∧ s.slotFrame t k .twinTail = s ∧ s.slotFrame t k .quiet = s

/-- A command slot sends the head of the queue, the entry in flight or else the oldest waiting entry whose station is not
LOST. A waiting head takes its stamp; a twin's CAP is split, the even half's share rounded up, and its odd half is addressed
from the stamp, whatever the map part has become. A queue whose entries are all waiting for LOST stations has no head, and the
slot is that of its rule without a command. -/
def Obligations.CommandSlotSendsTheHead : Prop :=
  (∀ (s : State) (t : TrunkId) (k : EntryIndex) (l : Station),
    (∀ d ∈ s.queue t, d.waiting = true ∧ (s.image d.index).state = .lost) →
    s.slotFrame t k .cmdOrQuiet = s ∧ s.slotFrame t k (.cmdOrScan l) = s.slotFrame t k (.scan l))
  ∧ ∀ (s : State) (t : TrunkId) (k : EntryIndex) (i : Nat) (e : CommandEntry),
    QueueSound (s.queue t) → (s.trunk t).commandMark = false → (s.queue t)[i]? = some e →
    let x := s.trunk t
    let sends : List CommandEntry → Nat → Option Nat → State := fun q address value =>
      let body : List Byte := [byte address, 0x03, byte e.item.code] ++ be2 (value.getD 65535)
      s.setTrunk t { x with
        queue := q
        exchange := some
          { kind := .command e.item, address := address, request := 0xA7#8 :: body ++ [crc8 body]
            withheld := x.lineHeld, startAt := s.clock, sentAt := none, heard := [], disturbed := false } }
    let twin := (s.map e.index).twin
    let taken : CommandStamp :=
      { index := e.index, generation := (s.image e.index).generation, address := (s.map e.index).address }
    let value : (Nat → Nat) → Option Nat := fun share =>
      match e.item, e.value with
      | .cap, some v => some (share v)
      | .hold, v => v
      | _, _ => none
    (e.waiting = true → (s.image e.index).state ≠ .lost → (∀ d ∈ s.queue t, d.waiting = true) →
      (∀ j d, j < i → (s.queue t)[j]? = some d → (s.image d.index).state = .lost) →
      s.slotFrame t k .cmdOrQuiet =
        sends ((s.queue t).set i { e with stamp := some taken }) (s.map e.index).address
          (value fun v => if twin then (v + 1) / 2 else v))
    ∧ ∀ st, e.stamp = some st → e.evenDone = true →
      s.slotFrame t k .cmdOrQuiet = sends (s.queue t) (st.address + 1) (value fun v => v / 2)

/-- The end of a request is ten bit-times for each byte after the slot's start. REQUEST_SENT, then or later, says that the
last byte has been read back: the reply windows count from the end of the request, and the mark takes the kind of the frame. A
byte that begins after the end of the request is heard by the exchange, not before the end of the last one; any other byte on
the trunk is discarded. Model's choices in it: log entries 5, 8, 9, 33. -/
def Obligations.RequestIsSentAndRepliesHeard : Prop :=
  ∀ (t : TrunkId) (s : State), s.powered = true →
    let x := s.trunk t
    let bitTicks := 115200 / x.rate
    (∀ e, x.exchange = some e → e.withheld = false → e.sentAt = none →
      let stop := e.startAt + 10 * e.request.length * bitTicks
      exec (.requestSent t) s =
        .next ((s.passed stop).setTrunk t { x with
          exchange := some { e with sentAt := some stop }
          commandMark := e.kind.isCommand }))
    ∧ (∀ e sent b good, x.exchange = some e → e.withheld = false →
      e.sentAt = some sent
        ∨ (e.sentAt = none ∧ sent = e.startAt + 10 * e.request.length * bitTicks ∧ sent ≤ s.clock) →
      let u := s.passed ((e.heard.getLast?.map fun h => h.start + 10 * bitTicks).getD sent)
      exec (.trunkByteReceived t b good) s =
        .next (u.setTrunk t { x with
          exchange := some { e with heard := e.heard ++ [{ start := u.clock, value := b, stopOk := good }] } }))
    ∧ ∀ b good,
      (∀ e, x.exchange = some e → e.withheld = true
        ∨ (e.sentAt = none ∧ s.clock < e.startAt + 10 * e.request.length * bitTicks)) →
      exec (.trunkByteReceived t b good) s = .next s

/-! ## Exchanges and their results (R7 to R11, R15 to R18, R23, R24, R85 to R91, R99, R100, R124 to R127) -/

/-- A result handed to the Station Table: discarded under an older generation; a good reply replaces reading and status and
makes the entry LIVE, a sensor-fault reply replaces the status, each with the miss count 0 and a POLL asked for where the
status shows ATTENTION; a miss counts, up to 15, and at the fault limit takes the entry to LOST: its waiting entries end
DROPPED, each reported to its originator, and its override stays, REFUSED where its own command was among them. A twin's
halves make one result: a miss of either is one miss, and two good readings are summed and mixed by flow. -/
def Obligations.StationResults : Prop :=
  (∀ (s : State) (stamp : Stamp),
    let l := stamp.index
    let x := s.image l
    let tr := (s.map l).trunk
    let polled : StatusSet → State → State := fun status u =>
      if status.getLsbD 4 = true then u.offerIfRoom tr l .poll none .module else u
    (x.generation ≠ stamp.generation ∨ x.state = .unbound → ∀ result, s.tableResult stamp result = s)
    ∧ (x.generation = stamp.generation → x.state ≠ .unbound →
      (∀ r status,
        let u := s.setImage l { x with reading := some r, status := some status, misses := 0, state := .live }
        s.tableResult stamp (.good r status) = polled status (if x.state = .lost then u.flagged .station else u))
      ∧ (∀ status,
        s.tableResult stamp (.sensorFault status) =
          polled status (s.setImage l { x with status := some status, misses := 0 }))
      ∧ (x.state = .lost ∨ min 15 (x.misses + 1) < s.params.faultMisses →
        s.tableResult stamp .miss = s.setImage l { x with misses := min 15 (x.misses + 1) })
      ∧ (x.state ≠ .lost → s.params.faultMisses ≤ min 15 (x.misses + 1) →
        let t := s.tableResult stamp .miss
        let gone := waitingFor (s.queue tr) l
        t.image l =
            { x with state := .lost, misses := min 15 (x.misses + 1), override := x.override.map (refusedBy gone l) }
          ∧ (∀ k, t.limit k = clearedBy gone k (s.limit k)) ∧ DropsReach gone (fun _ => []) .station s t
          ∧ (∀ r, r ≠ tr → t.queue r = s.queue r)
          ∧ t.queue tr = withoutWaiting (s.queue tr) l ∧ (∀ q, hasFlag (t.port q).flags .station)
          ∧ (∀ k, k ≠ l → t.image k = s.image k) ∧ WorkFrame { s with images := t.images } t)))
  ∧ ∀ (a b : Reading) (sa sb : StatusSet) (h : StationResult),
    combineResults .miss h = .miss ∧ combineResults h .miss = .miss
    ∧ combineResults (.sensorFault sa) (.sensorFault sb) = .sensorFault (sa ||| sb)
    ∧ combineResults (.sensorFault sa) (.good b sb) = .sensorFault (sa ||| sb)
    ∧ combineResults (.good a sa) (.sensorFault sb) = .sensorFault (sa ||| sb)
    ∧ combineResults (.good a sa) (.good b sb) =
      (let flow := a.q + b.q
      let mean : Nat → Nat → Nat := fun xa xb =>
        if 0 < flow then (2 * (a.q * xa + b.q * xb) + flow) / (2 * flow) else (xa + xb + 1) / 2
      .good
        { q := flow, ts := mean a.ts b.ts, tr := mean a.tr b.tr, v := max a.v b.v
          dp := if a.dp = none then b.dp else a.dp, clamped := a.clamped || b.clamped, goodAt := b.goodAt }
        (sa ||| sb))

/-- Bytes with gaps below 16 bit-times make one frame; a gap of 16 bit-times or more ends the frame before it, and so does its
255th byte, and the next byte begins a new one. A frame is judged by its length, then its check byte, then its identity; an
acceptable data reply gives its status and its values, clamped, and the time of its end; an acceptable command reply tells ACK
or NAK and the status. Model's choices in it: log entry 10. -/
def Obligations.RepliesAreJudgedInOrder : Prop :=
  (∀ (bt : Nat) (h : HeardByte) (hs : List HeardByte), hs.length < 255 →
    (h :: hs).IsChain (fun a b => b.start < a.start + 26 * bt) →
    framesOf bt (h :: hs) =
      [{ start := h.start, endAt := ((h :: hs).getLast (by simp)).start + 10 * bt
         bytes := (h :: hs).map (·.value), stopsOk := (h :: hs).all (·.stopOk) }])
  ∧ (∀ (bt : Nat) (h k : HeardByte) (before rest : List HeardByte), h.start + 26 * bt ≤ k.start →
    framesOf bt (before ++ h :: k :: rest) = framesOf bt (before ++ [h]) ++ framesOf bt (k :: rest))
  ∧ (∀ (bt : Nat) (f : HeardFrame) (before rest : List HeardByte),
    (framesOf bt before).getLast? = some f → f.bytes.length = 255 →
    framesOf bt (before ++ rest) = framesOf bt before ++ framesOf bt rest)
  ∧ ∀ (f : HeardFrame) (address : Nat) (asked : Byte) (item : Item),
    (f.bytes.length ≠ 16 → judgeData address asked f = .wrongLength)
    ∧ (f.bytes.length ≠ 7 → judgeCommand address item f = .wrongLength)
    ∧ (∀ (sync own kind asks st q1 q0 a1 a0 b1 b0 v1 v0 d1 d0 check : Byte),
      let body := [own, kind, asks, st, q1, q0, a1, a0, b1, b0, v1, v0, d1, d0]
      let d : DataReply :=
        { status := BitVec.ofNat 5 st.toNat, q := number2 q1 q0, ts := number2 a1 a0, tr := number2 b1 b0
          v := number2 v1 v0, dp := number2 d1 d0 }
      let right : Prop :=
        sync = 0xA7 ∧ own = byte address ∧ kind = 0x11 ∧ asks = asked ∧ f.stopsOk = true
      f.bytes = sync :: body ++ [check] →
      (check ≠ crc8 body → judgeData address asked f = .badCheck)
      ∧ (check = crc8 body → ¬right → judgeData address asked f = .wrongAddress)
      ∧ (check = crc8 body → right → judgeData address asked f = .accepted d))
    ∧ (∀ (sync own kind asks reason st check : Byte),
      let body := [own, kind, asks, reason, st]
      let right : Prop :=
        sync = 0xA7 ∧ own = byte address ∧ (kind = 0x12 ∨ kind = 0x13) ∧ asks = byte item.code ∧ f.stopsOk = true
      f.bytes = sync :: body ++ [check] →
      (check ≠ crc8 body → judgeCommand address item f = .badCheck)
      ∧ (check = crc8 body → ¬right → judgeCommand address item f = .wrongAddress)
      ∧ (check = crc8 body → right →
        judgeCommand address item f = .accepted { ack := kind = 0x12, status := BitVec.ofNat 5 st.toNat }))
    ∧ ∀ d : DataReply,
      let dp := if d.dp = 65535 then none else some (min d.dp 6000)
      let clamped : Prop := 4000 < d.q ∨ 4000 < d.ts ∨ 4000 < d.tr ∨ 1000 < d.v ∨ (6000 < d.dp ∧ d.dp ≠ 65535)
      (d.status.getLsbD 2 = true → stationResult f (.accepted d) = .sensorFault d.status)
      ∧ (d.status.getLsbD 2 = false →
        stationResult f (.accepted d) =
          .good
            { q := min d.q 4000, ts := min d.ts 4000, tr := min d.tr 4000, v := min d.v 1000, dp := dp
              clamped := decide clamped, goodAt := f.endAt } d.status)

/-- How each exchange but a roll-call ends. Without a reply begun within 48 bit-times, or withheld, it is a miss; a reply is
judged when it is closed; a pair ends when the later of its halves is settled, and hands both on together. Then a failed check
halts the trunk where halt-on-check is on, and a STOPPING trunk becomes STOPPED with TRUNK raised. Model's choices in it: log
entries 5, 10, 11, 13. -/
def Obligations.ExchangesHandOnTheirResults : Prop :=
  ∀ (t : TrunkId) (s : State) (x : Exchange), s.powered = true → (s.trunk t).exchange = some x →
    let bt := 115200 / (s.trunk t).rate
    let at_ : Nat → State := fun due => (s.passed due).setTrunk t { s.trunk t with exchange := none }
    let ends : Bool → State → State := fun bad u =>
      if bad = true ∧ (match t with | .a => s.params.haltOnCheckA | .b => s.params.haltOnCheckB) = true then
        u.halt t .check (some x.kind.frame)
      else if (u.trunk t).state = .stopping then
        (u.setTrunk t { u.trunk t with state := .stopped, slot := none }).flagged .trunk
      else u
    (x.withheld = true →
      let after : Nat → State := fun bits => at_ (x.startAt + bits * bt)
      (∀ stamp, x.kind = .scan stamp ∨ x.kind = .headScan stamp →
        exec (.withheldExchangeEnd t) s = .next (ends false ((after 88).tableResult stamp .miss)))
      ∧ (∀ stamp, x.kind = .pair stamp →
        exec (.withheldExchangeEnd t) s = .next (ends false ((after 296).tableResult stamp .miss)))
      ∧ (∀ item, x.kind = .command item →
        exec (.withheldExchangeEnd t) s = .next (ends false ((after 118).commandResult t none)))
      ∧ (x.kind = .rollcall → exec (.withheldExchangeEnd t) s = .next (ends false (after 848))))
    ∧ ∀ sent, x.withheld = false → x.sentAt = some sent →
      let begins : HeardFrame → Nat → Nat → Prop := fun f lo hi => sent + lo * bt ≤ f.start ∧ f.start ≤ sent + hi * bt
      let first : Nat → Nat → HeardFrame → Prop := fun lo hi f =>
        ∃ i, (framesOf bt x.heard)[i]? = some f ∧ begins f lo hi
          ∧ ∀ (j : Nat) (g : HeardFrame), j < i → (framesOf bt x.heard)[j]? = some g → ¬begins g lo hi
      let noneIn : Nat → Nat → Prop := fun lo hi => ∀ f ∈ framesOf bt x.heard, ¬begins f lo hi
      (noneIn 0 48 →
        (∀ stamp, x.kind = .scan stamp ∨ x.kind = .headScan stamp →
          exec (.replyTimeout t) s = .next (ends false ((at_ (sent + 48 * bt)).tableResult stamp .miss)))
        ∧ ∀ item, x.kind = .command item →
          exec (.replyTimeout t) s = .next (ends false ((at_ (sent + 48 * bt)).commandResult t none)))
      ∧ (∀ f, first 0 48 f →
        let u := at_ (f.endAt + 16 * bt)
        (∀ stamp, x.kind = .scan stamp →
          let j := judgeData x.address 0x01 f
          exec (.replyClosed t) s = .next (ends (j = .badCheck) (u.tableResult stamp (stationResult f j))))
        ∧ (∀ stamp, x.kind = .headScan stamp →
          exec (.replyClosed t) s =
            .next (ends (judgeData x.address 0x01 f = .badCheck) (u.tableResult stamp .miss)))
        ∧ ∀ item, x.kind = .command item →
          (∀ r, judgeCommand x.address item f = .accepted r →
            exec (.replyClosed t) s = .next (ends false (u.commandResult t (some r))))
          ∧ ((∀ r, judgeCommand x.address item f ≠ .accepted r) →
            exec (.replyClosed t) s =
              .next (ends (judgeCommand x.address item f = .badCheck) (u.commandResult t none))))
      ∧ ∀ stamp, x.kind = .pair stamp →
        (noneIn 0 48 → noneIn 224 256 →
          exec (.pairExchangeEnd t) s = .next (ends false ((at_ (sent + 256 * bt)).tableResult stamp .miss)))
        ∧ (∀ f, first 0 48 f → noneIn 224 256 →
          exec (.pairExchangeEnd t) s =
            .next (ends (judgeData x.address 0x02 f = .badCheck ∧ f.endAt ≤ sent + 224 * bt)
              ((at_ (max (f.endAt + 16 * bt) (sent + 256 * bt))).tableResult stamp .miss)))
        ∧ (∀ g, noneIn 0 48 → first 224 256 g →
          exec (.pairExchangeEnd t) s =
            .next (ends (judgeData (x.address + 1) 0x02 g = .badCheck)
              ((at_ (max (sent + 48 * bt) (g.endAt + 16 * bt))).tableResult stamp .miss)))
        ∧ ∀ f g, first 0 48 f → first 224 256 g →
          let j := judgeData x.address 0x02 f
          let k := judgeData (x.address + 1) 0x02 g
          f.endAt ≤ sent + 224 * bt →
          exec (.pairExchangeEnd t) s =
            .next (ends (j = .badCheck ∨ k = .badCheck)
              ((at_ (max (f.endAt + 16 * bt) (g.endAt + 16 * bt))).tableResult stamp
                (combineResults (stationResult f j) (stationResult g k))))

/-- The result of a command exchange at the entry in flight: under an older generation it ends DROPPED; a miss is charged, and
the third ends it NO_REPLY; an ACK or NAK of a single station, or of a twin's odd half, ends it DONE or REFUSED, a POLL's
status stored first; a twin's even half that acknowledges leaves the odd half to be sent. -/
def Obligations.CommandResultsEndOrKeepTheEntry : Prop :=
  ∀ (s : State) (t : TrunkId) (i : Nat) (e : CommandEntry) (st : CommandStamp),
    QueueSound (s.queue t) → (s.queue t)[i]? = some e → e.stamp = some st →
    let x := s.image e.index
    let ended : State → CommandEnd → State := fun u o => (u.setQueue t ((s.queue t).eraseIdx i)).deliver e o
    let stays : CommandEntry → State := fun n => s.setQueue t ((s.queue t).set i n)
    (st.generation ≠ x.generation → ∀ r, s.commandResult t r = ended s .dropped)
    ∧ (st.generation = x.generation →
      (e.attempts = 2 → s.commandResult t none = ended s .noReply)
      ∧ (e.attempts < 2 → e.evenDone = true → s.commandResult t none = stays { e with attempts := e.attempts + 1 })
      ∧ (e.attempts < 2 → e.evenDone = false → (∀ w ∈ s.queue t, waitingKey e.index e.item w = false) →
        s.commandResult t none =
          stays { e with attempts := e.attempts + 1, stamp := none, evenDone := false, evenStatus := none })
      ∧ ∀ r : CommandReply,
        let final : CommandEnd := if r.ack then .done else .refused
        (e.evenDone = false → (s.map e.index).twin = true →
          (r.ack = true →
            s.commandResult t (some r) =
              stays { e with
                evenDone := true, attempts := 0, evenStatus := if e.item = .poll then some r.status else none })
          ∧ (r.ack = false → s.commandResult t (some r) = ended s .refused))
        ∧ (e.evenDone = true ∨ (s.map e.index).twin = false →
          (e.item ≠ .poll → s.commandResult t (some r) = ended s final)
          ∧ (e.item = .poll → x.state ≠ .unbound →
            let status := match e.evenStatus with
              | some even => even ||| r.status
              | none => r.status
            s.commandResult t (some r) =
              ended (s.setImage e.index { x with status := some status }) final)))

/-! ## Roll-call and admission (R89, R135 to R144) -/

/-- A roll-call ends 808 bit-times after its request, and hands on the answer of each address's window, unless the line was
held during it: to the Station Table, entry by entry, and then to the Admission List, address by address. A STOPPING trunk
then becomes STOPPED with TRUNK raised. At a bound entry the answers set or clear the clash mark and ask for a POLL; at every
other address they make R137's table: a candidate is seen, absent or clashing, leaves at its third absence, and an unknown
station is listed while there is room, with CANDIDATE raised on the OPERATOR ports. Model's choices in it: log entries 5, 18,
27. -/
def Obligations.RollcallAnswersAreTaken : Prop :=
  (∀ (t : TrunkId) (s : State) (x : Exchange) (sent : Nat), s.powered = true → (s.trunk t).exchange = some x →
    x.kind = .rollcall → x.withheld = false → x.sentAt = some sent →
    let bt := 115200 / (s.trunk t).rate
    let u := (s.passed (sent + 808 * bt)).setTrunk t { s.trunk t with exchange := none }
    let heard : Nat → List HeardByte := fun a => x.heard.filter fun b =>
      sent + (36 + 12 * a) * bt ≤ b.start && b.start < sent + (48 + 12 * a) * bt
    let tells : Nat → Byte → Prop := fun a v => ∃ b, heard a = [b] ∧ b.value = v ∧ b.stopOk = true
    let ends : State → State := fun v =>
      if (s.trunk t).state = .stopping then
        (v.setTrunk t { v.trunk t with state := .stopped, slot := none }).flagged .trunk
      else v
    (x.disturbed = true → exec (.rollcallEnd t) s = .next (ends u))
    ∧ (x.disturbed = false →
      ∃ answer : Nat → Answer,
        exec (.rollcallEnd t) s =
          .next (ends ((List.range' 1 62).foldl (State.admissionAnswer answer t)
            ((List.finRange 120).foldl (State.boundAnswers answer t) u)))
        ∧ ∀ a, 1 ≤ a → a ≤ 62 →
          (answer a = .absent ↔ heard a = []) ∧ (answer a = .present ↔ tells a 0x6A)
            ∧ (answer a = .presentAttention ↔ tells a 0x6B)))
  ∧ (∀ (s : State) (t : TrunkId) (l : Station) (answer : Nat → Answer),
    let x := s.image l
    let asks : Prop := ∃ a ∈ (s.map l).addresses, answer a = .presentAttention
    let u := s.setImage l { x with clash := decide (∃ a ∈ (s.map l).addresses, answer a = .clash) }
    ((s.map l).enabled = false ∨ (s.map l).trunk ≠ t → s.boundAnswers answer t l = s)
    ∧ ((s.map l).enabled = true → (s.map l).trunk = t →
      (asks → s.boundAnswers answer t l = u.offerIfRoom t l .poll none .module)
      ∧ (¬asks → s.boundAnswers answer t l = u)))
  ∧ ∀ (s : State) (t : TrunkId) (a : Nat) (answer : Nat → Answer),
    let free : Prop := s.isBound t a = false ∧ a ∉ s.refused t
    let here : Candidate → Bool := fun c => c.trunk = t ∧ c.address = a
    let after := s.admissionAnswer answer t a
    let present : Prop := answer a = .present ∨ answer a = .presentAttention
    let known : Prop := ∃ c ∈ s.candidates, here c = true
    let turns : (Candidate → Candidate) → State := fun f =>
      { s with candidates := s.candidates.map fun c => if here c then f c else c }
    let told : State → State := fun u =>
      { u with
        ports := u.ports.map fun y => if y.profile = .operator then { y with flags := y.flags ||| .candidate } else y }
    (¬free → after = s)
    ∧ (free → known →
      (present → (∀ c ∈ s.candidates, c.absences ≤ 2) →
        after = turns fun c => { c with seen := min 65535 (c.seen + 1), absences := 0, clash := false })
      ∧ (answer a = .clash → (∀ c ∈ s.candidates, c.absences ≤ 2) → after = turns fun c => { c with clash := true })
      ∧ (answer a = .absent →
        ((∀ c ∈ s.candidates, here c = true → c.absences < 2) →
          after = turns fun c => { c with absences := c.absences + 1, clash := false })
        ∧ ((∀ c ∈ s.candidates, here c = true → c.absences = 2) →
          after = told { s with candidates := s.candidates.filter (!here ·), overflow := false })))
    ∧ (free → ¬known →
      (present → s.candidates.length < 8 →
        after = told { s with
          candidates := s.candidates
            ++ [{ trunk := t, address := a, firstSeen := s.clock, seen := 1, absences := 0, clash := false }] })
      ∧ (present → 8 ≤ s.candidates.length →
        after = if s.overflow then s else told { s with overflow := true })
      ∧ (¬present → after = s))

/-- ADMIT, REJECT and FORGET: the refusals in their order, and what a request does that passes. ADMIT binds an UNBOUND entry
at a candidate's address, which is a binding change, and takes the candidates it binds from the list; REJECT moves a candidate
into the refused set; FORGET takes an address out of it. Model's choices in it: log entries 6, 7. -/
def Obligations.AdmissionRequestsAreJudged : Prop :=
  ∀ (p : PortId) (tag address : Nat) (s : State), s.Operates p →
    let bad : Prop := address = 0 ∨ 62 < address
    let replies : Instr → Nat → ResponseCode → Prop := fun i code c =>
      exec i s = .next ((s.received p).answers p (codeResponse tag code c))
    (∀ trunk, 2 ≤ trunk ∨ bad →
      replies (.reject p tag trunk address) 0x44 .badIndex ∧ replies (.forget p tag trunk address) 0x45 .badIndex
      ∧ ∀ index twin qc, replies (.admitCandidate p tag trunk address index twin qc) 0x43 .badIndex)
    ∧ (∀ trunk index twin qc, 120 ≤ index →
      replies (.admitCandidate p tag trunk address index twin qc) 0x43 .badIndex)
    ∧ ∀ t : TrunkId, ¬bad →
      let here : Candidate → Bool := fun c => c.trunk = t ∧ c.address = address
      let known : Prop := ∃ c ∈ s.candidates, here c = true
      (¬known → replies (.reject p tag (trunkCode t) address) 0x44 .none)
      ∧ (known → (s.refused t).Pairwise (· < ·) →
        ∃ set : List Nat, set.Pairwise (· < ·) ∧ (∀ a, a ∈ set ↔ a = address ∨ a ∈ s.refused t)
          ∧ exec (.reject p tag (trunkCode t) address) s =
            .next ((({ s.received p with
                candidates := s.candidates.filter (!here ·), overflow := false } : State).setRefused t set).answers p
              (okResponse tag 0x44 [])))
      ∧ (address ∉ s.refused t → replies (.forget p tag (trunkCode t) address) 0x45 .none)
      ∧ (address ∈ s.refused t →
        exec (.forget p tag (trunkCode t) address) s =
          .next (((s.received p).setRefused t ((s.refused t).filter (· ≠ address))).answers p
            (okResponse tag 0x45 [])))
      ∧ ∀ (l : Station) (twin qc : Nat),
        let m : MapPart :=
          { enabled := true, trunk := t, address := address, twin := twin ≠ 0, qc := min qc 8000, index := false
            dpmin := 0, exempt := false, customerTag := 0 }
        let odd : Prop := twin ≠ 0 ∧ (address % 2 = 1 ∨ address = 62)
        let shared : Prop := ∃ k, k ≠ l ∧ (s.map k).trunk = t ∧ ∃ a ∈ m.addresses, a ∈ (s.map k).addresses
        let admission : Instr := .admitCandidate p tag (trunkCode t) address l.val twin qc
        (¬known → replies admission 0x43 .none)
        ∧ (known → odd → replies admission 0x43 .badIndex)
        ∧ (known → ¬odd → (s.image l).state ≠ .unbound → replies admission 0x43 .inUse)
        ∧ (known → ¬odd → (s.image l).state = .unbound → shared → replies admission 0x43 .duplicate)
        ∧ (known → ¬odd → (s.image l).state = .unbound → ¬shared →
          exec admission s =
            .next (({ (s.received p).bindingChange l m with
              candidates := s.candidates.filter fun c => !(c.trunk = t ∧ c.address ∈ m.addresses)
              overflow := false } : State).answers p (okResponse tag 0x43 m.bytes)))

/-! ## What every step keeps -/

/-- Every step keeps the laws of the ports: the failure counter and the window length in range, the window that the state
runs, an empty mask while CLOSED, at most eight outcomes, no CANDIDATE flag on a PLANT port, and no BUSY owed on a FREE port.
-/
def Obligations.StepKeepsPortsSound : Prop :=
  ∀ s t : State, s.PortsSound → step s = .next t → t.PortsSound

/-- Every step keeps the settings within their ranges, every trunk address bound to at most one enabled entry, in the working
settings, the copy and a capture alike, and S within the band. -/
def Obligations.StepKeepsSettingsSound : Prop :=
  ∀ s t : State, s.SettingsSound → step s = .next t → t.SettingsSound

/-- Every step keeps the laws of the queues, at most 16 entries, at most one waiting entry of a key and at most one in flight,
and those of the trunks, an entry in flight among them having its frame on the line or its even half done, where the settings
from which a trunk takes its bit rate are sound. -/
def Obligations.StepKeepsQueuesAndTrunksSound : Prop :=
  ∀ s t : State, s.SettingsSound → s.QueuesSound → s.TrunksSound → step s = .next t → t.QueuesSound ∧ t.TrunksSound

/-- Every step keeps the laws of the Admission List: at most eight candidates, no two of one address, none bound or refused,
and the refused sets ascending. -/
def Obligations.StepKeepsAdmissionSound : Prop :=
  ∀ s t : State, s.AdmissionSound → step s = .next t → t.AdmissionSound

/-- Every step keeps R4's table of which image fields each state may hold, the readings in range and the limiter clear of
unbound and overridden entries; and every offer in range with a LIVE PLANT port and every override with a LIVE OPERATOR port.
-/
def Obligations.StepKeepsImagesAndOwnersSound : Prop :=
  ∀ s t : State, s.ImagesSound → s.OwnersSound → step s = .next t → t.ImagesSound ∧ t.OwnersSound

/-- Every step keeps the laws of the dispatch records: the shares and U make D′, the status is that of U, Q is divided among
the positive shares, and the records held are numbered one after the other. -/
def Obligations.StepKeepsRecordsSound : Prop :=
  ∀ s t : State, s.RecordsSound → step s = .next t → t.RecordsSound

/-- The state after reset meets all the laws that every step keeps. Model's choices in it: log entry 4. -/
def Obligations.ResetIsSound : Prop :=
  State.reset.PortsSound ∧ State.reset.SettingsSound ∧ State.reset.QueuesSound ∧ State.reset.TrunksSound
    ∧ State.reset.AdmissionSound ∧ State.reset.ImagesSound ∧ State.reset.OwnersSound ∧ State.reset.RecordsSound
end

