-- ==== Sys2Proof/Laws/State.lean ====
section
/-! SUPPORT. Reading one piece of the state after writing another: one lemma per field and per read, for each of the writes that
the machine is built from, and the other writes in terms of these. -/

namespace Sys2Proof.Machine

/-! ## Tables -/

@[simp] theorem tabulate_get {α : Type} (n : Nat) (f : Fin n → α) (i : Fin n) : (tabulate n f).get i = f i := by
  simp [tabulate, Vector.get]
  rfl

theorem vector_get_set {α : Type} {n : Nat} (v : Vector α n) (i j : Fin n) (x : α) :
    (v.set i.val x i.isLt).get j = if j = i then x else v.get j := by
  simp only [Vector.get_eq_getElem, Vector.getElem_set, Fin.ext_iff, eq_comm]

/-! ## Writes in terms of the writes below -/

@[simp] theorem State.modifyPort_eq (s : State) (p : PortId) (f : Port → Port) :
    s.modifyPort p f = s.setPort p (f (s.port p)) := rfl
@[simp] theorem State.modifyTrunk_eq (s : State) (t : TrunkId) (f : Trunk → Trunk) :
    s.modifyTrunk t f = s.setTrunk t (f (s.trunk t)) := rfl
@[simp] theorem State.modifyImage_eq (s : State) (l : Station) (f : Image → Image) :
    s.modifyImage l f = s.setImage l (f (s.image l)) := rfl
@[simp] theorem State.setQueue_eq (s : State) (t : TrunkId) (q : List CommandEntry) :
    s.setQueue t q = s.setTrunk t { s.trunk t with queue := q } := rfl
@[simp] theorem State.raise_eq (s : State) (p : PortId) (f : FlagSet) :
    s.raise p f = s.setPort p { s.port p with flags := (s.port p).flags ||| f } := rfl
@[simp] theorem State.raiseAll_eq (s : State) (f : FlagSet) :
    s.raiseAll f = s.eachPort fun x => { x with flags := x.flags ||| f } := rfl
@[simp] theorem State.frameJudged_eq (s : State) (p : PortId) :
    s.frameJudged p = s.setPort p { s.port p with receiving := (s.port p).receiving.tail } := rfl
@[simp] theorem State.send_eq (s : State) (p : PortId) (r : Response) (restarts : Bool) :
    s.send p r restarts =
      s.setPort p { s.port p with sending := some { response := r, endAt := s.clock + r.ticks, restarts := restarts } } := rfl

/-! ## A read of what was written -/

@[simp] theorem State.port_setPort (s : State) (p q : PortId) (x : Port) :
    (s.setPort p x).port q = if q = p then x else s.port q := vector_get_set _ _ _ _
@[simp] theorem State.port_eachPort (s : State) (f : Port → Port) (q : PortId) : (s.eachPort f).port q = f (s.port q) :=
  tabulate_get _ _ _
@[simp] theorem State.trunk_setTrunk (s : State) (t u : TrunkId) (x : Trunk) :
    (s.setTrunk t x).trunk u = if u = t then x else s.trunk u := by cases t <;> cases u <;> rfl
@[simp] theorem State.queue_setTrunk (s : State) (t u : TrunkId) (x : Trunk) :
    (s.setTrunk t x).queue u = if u = t then x.queue else s.queue u := by cases t <;> cases u <;> rfl
@[simp] theorem State.image_setImage (s : State) (l k : Station) (x : Image) :
    (s.setImage l x).image k = if k = l then x else s.image k := vector_get_set _ _ _ _
@[simp] theorem State.limit_setLimit (s : State) (l k : Station) (x : LimitEntry) :
    (s.setLimit l x).limit k = if k = l then x else s.limit k := vector_get_set _ _ _ _
@[simp] theorem State.map_setMap (s : State) (l k : Station) (x : MapPart) :
    (s.setMap l x).map k = if k = l then x else s.map k := vector_get_set _ _ _ _
@[simp] theorem State.offer_setOffer (s : State) (p q : PortId) (x : Option Offer) :
    (s.setOffer p x).offer q = if q = p then x else s.offer q := vector_get_set _ _ _ _
@[simp] theorem State.refused_setRefused (s : State) (t u : TrunkId) (x : List Nat) :
    (s.setRefused t x).refused u = if u = t then x else s.refused u := by cases t <;> cases u <;> rfl
@[simp] theorem State.params_setParams (s : State) (x : Params) : (s.setParams x).params = x := rfl
@[simp] theorem State.clock_await (s : State) (n : Nat) : (s.await n).clock = max s.clock n := rfl
@[simp] theorem State.schedule_setMap (s : State) (l : Station) (x : MapPart) (u : TrunkId) :
    (s.setMap l x).schedule u = s.schedule u := by cases u <;> rfl
@[simp] theorem State.params_setMap (s : State) (l : Station) (x : MapPart) : (s.setMap l x).params = s.params := rfl
@[simp] theorem State.map_setSlotEntry (s : State) (t : TrunkId) (i : EntryIndex) (x : SlotEntry) (k : Station) :
    (s.setSlotEntry t i x).map k = s.map k := by cases t <;> rfl
@[simp] theorem State.params_setSlotEntry (s : State) (t : TrunkId) (i : EntryIndex) (x : SlotEntry) :
    (s.setSlotEntry t i x).params = s.params := by cases t <;> rfl
@[simp] theorem State.map_setParams (s : State) (x : Params) (k : Station) : (s.setParams x).map k = s.map k := rfl
@[simp] theorem State.schedule_setParams (s : State) (x : Params) (u : TrunkId) :
    (s.setParams x).schedule u = s.schedule u := by cases u <;> rfl
theorem State.schedule_setSlotEntry (s : State) (t u : TrunkId) (i j : EntryIndex) (x : SlotEntry) :
    ((s.setSlotEntry t i x).schedule u).get j = if u = t ∧ j = i then x else (s.schedule u).get j := by
  cases t <;> cases u <;> simp [State.setSlotEntry, State.schedule, vector_get_set]

/-! ## Writes that repeat or undo one another -/

@[simp] theorem State.setPort_setPort (s : State) (p : PortId) (x y : Port) : (s.setPort p x).setPort p y = s.setPort p y := by
  simp [State.setPort]
@[simp] theorem State.setTrunk_setTrunk (s : State) (t : TrunkId) (x y : Trunk) :
    (s.setTrunk t x).setTrunk t y = s.setTrunk t y := by cases t <;> rfl
@[simp] theorem State.setImage_setImage (s : State) (l : Station) (x y : Image) :
    (s.setImage l x).setImage l y = s.setImage l y := by simp [State.setImage]
@[simp] theorem State.setLimit_setLimit (s : State) (l : Station) (x y : LimitEntry) :
    (s.setLimit l x).setLimit l y = s.setLimit l y := by simp [State.setLimit]
@[simp] theorem State.setPort_port (s : State) (p : PortId) : s.setPort p (s.port p) = s := by
  simp [State.setPort, State.port, Vector.get_eq_getElem]
@[simp] theorem State.setTrunk_trunk (s : State) (t : TrunkId) : s.setTrunk t (s.trunk t) = s := by cases t <;> rfl
@[simp] theorem State.setImage_image (s : State) (l : Station) : s.setImage l (s.image l) = s := by
  simp [State.setImage, State.image, Vector.get_eq_getElem]
@[simp] theorem State.setLimit_limit (s : State) (l : Station) : s.setLimit l (s.limit l) = s := by
  simp [State.setLimit, State.limit, Vector.get_eq_getElem]

/-! ## Two states are equal when what their tables read is -/

theorem ports_ext {v w : Vector Port 4} (h : ∀ p : PortId, v.get p = w.get p) : v = w := by
  ext i hi
  simpa [Vector.get_eq_getElem] using h ⟨i, hi⟩

theorem images_ext {v w : Vector Image 120} (h : ∀ l : Station, v.get l = w.get l) : v = w := by
  ext i hi
  simpa [Vector.get_eq_getElem] using h ⟨i, hi⟩

theorem limits_ext {v w : Vector LimitEntry 120} (h : ∀ l : Station, v.get l = w.get l) : v = w := by
  ext i hi
  simpa [Vector.get_eq_getElem] using h ⟨i, hi⟩

/-! ## What `setPort` leaves alone -/

@[simp] theorem State.setPort_powered (s : State) (p : PortId) (x : Port) : (s.setPort p x).powered = s.powered := rfl
@[simp] theorem State.setPort_clock (s : State) (p : PortId) (x : Port) : (s.setPort p x).clock = s.clock := rfl
@[simp] theorem State.setPort_ties (s : State) (p : PortId) (x : Port) : (s.setPort p x).ties = s.ties := rfl
@[simp] theorem State.setPort_work (s : State) (p : PortId) (x : Port) : (s.setPort p x).work = s.work := rfl
@[simp] theorem State.setPort_copy (s : State) (p : PortId) (x : Port) : (s.setPort p x).copy = s.copy := rfl
@[simp] theorem State.setPort_copyCheck (s : State) (p : PortId) (x : Port) : (s.setPort p x).copyCheck = s.copyCheck := rfl
@[simp] theorem State.setPort_copyWhole (s : State) (p : PortId) (x : Port) : (s.setPort p x).copyWhole = s.copyWhole := rfl
@[simp] theorem State.setPort_saving (s : State) (p : PortId) (x : Port) : (s.setPort p x).saving = s.saving := rfl
@[simp] theorem State.setPort_configDefaulted (s : State) (p : PortId) (x : Port) : (s.setPort p x).configDefaulted = s.configDefaulted := rfl
@[simp] theorem State.setPort_images (s : State) (p : PortId) (x : Port) : (s.setPort p x).images = s.images := rfl
@[simp] theorem State.setPort_limits (s : State) (p : PortId) (x : Port) : (s.setPort p x).limits = s.limits := rfl
@[simp] theorem State.setPort_trunkA (s : State) (p : PortId) (x : Port) : (s.setPort p x).trunkA = s.trunkA := rfl
@[simp] theorem State.setPort_trunkB (s : State) (p : PortId) (x : Port) : (s.setPort p x).trunkB = s.trunkB := rfl
@[simp] theorem State.setPort_candidates (s : State) (p : PortId) (x : Port) : (s.setPort p x).candidates = s.candidates := rfl
@[simp] theorem State.setPort_overflow (s : State) (p : PortId) (x : Port) : (s.setPort p x).overflow = s.overflow := rfl
@[simp] theorem State.setPort_refusedA (s : State) (p : PortId) (x : Port) : (s.setPort p x).refusedA = s.refusedA := rfl
@[simp] theorem State.setPort_refusedB (s : State) (p : PortId) (x : Port) : (s.setPort p x).refusedB = s.refusedB := rfl
@[simp] theorem State.setPort_offers (s : State) (p : PortId) (x : Port) : (s.setPort p x).offers = s.offers := rfl
@[simp] theorem State.setPort_current (s : State) (p : PortId) (x : Port) : (s.setPort p x).current = s.current := rfl
@[simp] theorem State.setPort_previous (s : State) (p : PortId) (x : Port) : (s.setPort p x).previous = s.previous := rfl
@[simp] theorem State.setPort_sequence (s : State) (p : PortId) (x : Port) : (s.setPort p x).sequence = s.sequence := rfl
@[simp] theorem State.setPort_setpoint (s : State) (p : PortId) (x : Port) : (s.setPort p x).setpoint = s.setpoint := rfl
@[simp] theorem State.setPort_mode (s : State) (p : PortId) (x : Port) : (s.setPort p x).mode = s.mode := rfl
@[simp] theorem State.setPort_clearMark (s : State) (p : PortId) (x : Port) : (s.setPort p x).clearMark = s.clearMark := rfl
@[simp] theorem State.setPort_dispatchDue (s : State) (p : PortId) (x : Port) : (s.setPort p x).dispatchDue = s.dispatchDue := rfl
@[simp] theorem State.setPort_limiterDue (s : State) (p : PortId) (x : Port) : (s.setPort p x).limiterDue = s.limiterDue := rfl
@[simp] theorem State.setPort_pending (s : State) (p : PortId) (x : Port) : (s.setPort p x).pending = s.pending := rfl
@[simp] theorem State.trunk_setPort (s : State) (p : PortId) (x : Port) (u : TrunkId) : (s.setPort p x).trunk u = s.trunk u := by cases u <;> rfl
@[simp] theorem State.queue_setPort (s : State) (p : PortId) (x : Port) (u : TrunkId) : (s.setPort p x).queue u = s.queue u := by cases u <;> rfl
@[simp] theorem State.image_setPort (s : State) (p : PortId) (x : Port) (k : Station) : (s.setPort p x).image k = s.image k := rfl
@[simp] theorem State.limit_setPort (s : State) (p : PortId) (x : Port) (k : Station) : (s.setPort p x).limit k = s.limit k := rfl
@[simp] theorem State.map_setPort (s : State) (p : PortId) (x : Port) (k : Station) : (s.setPort p x).map k = s.map k := rfl
@[simp] theorem State.offer_setPort (s : State) (p : PortId) (x : Port) (q : PortId) : (s.setPort p x).offer q = s.offer q := rfl
@[simp] theorem State.schedule_setPort (s : State) (p : PortId) (x : Port) (u : TrunkId) : (s.setPort p x).schedule u = s.schedule u := by cases u <;> rfl
@[simp] theorem State.refused_setPort (s : State) (p : PortId) (x : Port) (u : TrunkId) : (s.setPort p x).refused u = s.refused u := by cases u <;> rfl
@[simp] theorem State.params_setPort (s : State) (p : PortId) (x : Port) : (s.setPort p x).params = s.params := rfl
@[simp] theorem State.nowMs_setPort (s : State) (p : PortId) (x : Port) : (s.setPort p x).nowMs = s.nowMs := rfl

/-! ## What `eachPort` leaves alone -/

@[simp] theorem State.eachPort_powered (s : State) (f : Port → Port) : (s.eachPort f).powered = s.powered := rfl
@[simp] theorem State.eachPort_clock (s : State) (f : Port → Port) : (s.eachPort f).clock = s.clock := rfl
@[simp] theorem State.eachPort_ties (s : State) (f : Port → Port) : (s.eachPort f).ties = s.ties := rfl
@[simp] theorem State.eachPort_work (s : State) (f : Port → Port) : (s.eachPort f).work = s.work := rfl
@[simp] theorem State.eachPort_copy (s : State) (f : Port → Port) : (s.eachPort f).copy = s.copy := rfl
@[simp] theorem State.eachPort_copyCheck (s : State) (f : Port → Port) : (s.eachPort f).copyCheck = s.copyCheck := rfl
@[simp] theorem State.eachPort_copyWhole (s : State) (f : Port → Port) : (s.eachPort f).copyWhole = s.copyWhole := rfl
@[simp] theorem State.eachPort_saving (s : State) (f : Port → Port) : (s.eachPort f).saving = s.saving := rfl
@[simp] theorem State.eachPort_configDefaulted (s : State) (f : Port → Port) : (s.eachPort f).configDefaulted = s.configDefaulted := rfl
@[simp] theorem State.eachPort_images (s : State) (f : Port → Port) : (s.eachPort f).images = s.images := rfl
@[simp] theorem State.eachPort_limits (s : State) (f : Port → Port) : (s.eachPort f).limits = s.limits := rfl
@[simp] theorem State.eachPort_trunkA (s : State) (f : Port → Port) : (s.eachPort f).trunkA = s.trunkA := rfl
@[simp] theorem State.eachPort_trunkB (s : State) (f : Port → Port) : (s.eachPort f).trunkB = s.trunkB := rfl
@[simp] theorem State.eachPort_candidates (s : State) (f : Port → Port) : (s.eachPort f).candidates = s.candidates := rfl
@[simp] theorem State.eachPort_overflow (s : State) (f : Port → Port) : (s.eachPort f).overflow = s.overflow := rfl
@[simp] theorem State.eachPort_refusedA (s : State) (f : Port → Port) : (s.eachPort f).refusedA = s.refusedA := rfl
@[simp] theorem State.eachPort_refusedB (s : State) (f : Port → Port) : (s.eachPort f).refusedB = s.refusedB := rfl
@[simp] theorem State.eachPort_offers (s : State) (f : Port → Port) : (s.eachPort f).offers = s.offers := rfl
@[simp] theorem State.eachPort_current (s : State) (f : Port → Port) : (s.eachPort f).current = s.current := rfl
@[simp] theorem State.eachPort_previous (s : State) (f : Port → Port) : (s.eachPort f).previous = s.previous := rfl
@[simp] theorem State.eachPort_sequence (s : State) (f : Port → Port) : (s.eachPort f).sequence = s.sequence := rfl
@[simp] theorem State.eachPort_setpoint (s : State) (f : Port → Port) : (s.eachPort f).setpoint = s.setpoint := rfl
@[simp] theorem State.eachPort_mode (s : State) (f : Port → Port) : (s.eachPort f).mode = s.mode := rfl
@[simp] theorem State.eachPort_clearMark (s : State) (f : Port → Port) : (s.eachPort f).clearMark = s.clearMark := rfl
@[simp] theorem State.eachPort_dispatchDue (s : State) (f : Port → Port) : (s.eachPort f).dispatchDue = s.dispatchDue := rfl
@[simp] theorem State.eachPort_limiterDue (s : State) (f : Port → Port) : (s.eachPort f).limiterDue = s.limiterDue := rfl
@[simp] theorem State.eachPort_pending (s : State) (f : Port → Port) : (s.eachPort f).pending = s.pending := rfl
@[simp] theorem State.trunk_eachPort (s : State) (f : Port → Port) (u : TrunkId) : (s.eachPort f).trunk u = s.trunk u := by cases u <;> rfl
@[simp] theorem State.queue_eachPort (s : State) (f : Port → Port) (u : TrunkId) : (s.eachPort f).queue u = s.queue u := by cases u <;> rfl
@[simp] theorem State.image_eachPort (s : State) (f : Port → Port) (k : Station) : (s.eachPort f).image k = s.image k := rfl
@[simp] theorem State.limit_eachPort (s : State) (f : Port → Port) (k : Station) : (s.eachPort f).limit k = s.limit k := rfl
@[simp] theorem State.map_eachPort (s : State) (f : Port → Port) (k : Station) : (s.eachPort f).map k = s.map k := rfl
@[simp] theorem State.offer_eachPort (s : State) (f : Port → Port) (q : PortId) : (s.eachPort f).offer q = s.offer q := rfl
@[simp] theorem State.schedule_eachPort (s : State) (f : Port → Port) (u : TrunkId) : (s.eachPort f).schedule u = s.schedule u := by cases u <;> rfl
@[simp] theorem State.refused_eachPort (s : State) (f : Port → Port) (u : TrunkId) : (s.eachPort f).refused u = s.refused u := by cases u <;> rfl
@[simp] theorem State.params_eachPort (s : State) (f : Port → Port) : (s.eachPort f).params = s.params := rfl
@[simp] theorem State.nowMs_eachPort (s : State) (f : Port → Port) : (s.eachPort f).nowMs = s.nowMs := rfl

/-! ## What `setTrunk` leaves alone -/

@[simp] theorem State.setTrunk_powered (s : State) (t : TrunkId) (x : Trunk) : (s.setTrunk t x).powered = s.powered := by cases t <;> rfl
@[simp] theorem State.setTrunk_clock (s : State) (t : TrunkId) (x : Trunk) : (s.setTrunk t x).clock = s.clock := by cases t <;> rfl
@[simp] theorem State.setTrunk_ties (s : State) (t : TrunkId) (x : Trunk) : (s.setTrunk t x).ties = s.ties := by cases t <;> rfl
@[simp] theorem State.setTrunk_work (s : State) (t : TrunkId) (x : Trunk) : (s.setTrunk t x).work = s.work := by cases t <;> rfl
@[simp] theorem State.setTrunk_copy (s : State) (t : TrunkId) (x : Trunk) : (s.setTrunk t x).copy = s.copy := by cases t <;> rfl
@[simp] theorem State.setTrunk_copyCheck (s : State) (t : TrunkId) (x : Trunk) : (s.setTrunk t x).copyCheck = s.copyCheck := by cases t <;> rfl
@[simp] theorem State.setTrunk_copyWhole (s : State) (t : TrunkId) (x : Trunk) : (s.setTrunk t x).copyWhole = s.copyWhole := by cases t <;> rfl
@[simp] theorem State.setTrunk_saving (s : State) (t : TrunkId) (x : Trunk) : (s.setTrunk t x).saving = s.saving := by cases t <;> rfl
@[simp] theorem State.setTrunk_configDefaulted (s : State) (t : TrunkId) (x : Trunk) : (s.setTrunk t x).configDefaulted = s.configDefaulted := by cases t <;> rfl
@[simp] theorem State.setTrunk_images (s : State) (t : TrunkId) (x : Trunk) : (s.setTrunk t x).images = s.images := by cases t <;> rfl
@[simp] theorem State.setTrunk_limits (s : State) (t : TrunkId) (x : Trunk) : (s.setTrunk t x).limits = s.limits := by cases t <;> rfl
@[simp] theorem State.setTrunk_candidates (s : State) (t : TrunkId) (x : Trunk) : (s.setTrunk t x).candidates = s.candidates := by cases t <;> rfl
@[simp] theorem State.setTrunk_overflow (s : State) (t : TrunkId) (x : Trunk) : (s.setTrunk t x).overflow = s.overflow := by cases t <;> rfl
@[simp] theorem State.setTrunk_refusedA (s : State) (t : TrunkId) (x : Trunk) : (s.setTrunk t x).refusedA = s.refusedA := by cases t <;> rfl
@[simp] theorem State.setTrunk_refusedB (s : State) (t : TrunkId) (x : Trunk) : (s.setTrunk t x).refusedB = s.refusedB := by cases t <;> rfl
@[simp] theorem State.setTrunk_offers (s : State) (t : TrunkId) (x : Trunk) : (s.setTrunk t x).offers = s.offers := by cases t <;> rfl
@[simp] theorem State.setTrunk_current (s : State) (t : TrunkId) (x : Trunk) : (s.setTrunk t x).current = s.current := by cases t <;> rfl
@[simp] theorem State.setTrunk_previous (s : State) (t : TrunkId) (x : Trunk) : (s.setTrunk t x).previous = s.previous := by cases t <;> rfl
@[simp] theorem State.setTrunk_sequence (s : State) (t : TrunkId) (x : Trunk) : (s.setTrunk t x).sequence = s.sequence := by cases t <;> rfl
@[simp] theorem State.setTrunk_setpoint (s : State) (t : TrunkId) (x : Trunk) : (s.setTrunk t x).setpoint = s.setpoint := by cases t <;> rfl
@[simp] theorem State.setTrunk_mode (s : State) (t : TrunkId) (x : Trunk) : (s.setTrunk t x).mode = s.mode := by cases t <;> rfl
@[simp] theorem State.setTrunk_clearMark (s : State) (t : TrunkId) (x : Trunk) : (s.setTrunk t x).clearMark = s.clearMark := by cases t <;> rfl
@[simp] theorem State.setTrunk_dispatchDue (s : State) (t : TrunkId) (x : Trunk) : (s.setTrunk t x).dispatchDue = s.dispatchDue := by cases t <;> rfl
@[simp] theorem State.setTrunk_limiterDue (s : State) (t : TrunkId) (x : Trunk) : (s.setTrunk t x).limiterDue = s.limiterDue := by cases t <;> rfl
@[simp] theorem State.setTrunk_ports (s : State) (t : TrunkId) (x : Trunk) : (s.setTrunk t x).ports = s.ports := by cases t <;> rfl
@[simp] theorem State.setTrunk_pending (s : State) (t : TrunkId) (x : Trunk) : (s.setTrunk t x).pending = s.pending := by cases t <;> rfl
@[simp] theorem State.port_setTrunk (s : State) (t : TrunkId) (x : Trunk) (q : PortId) : (s.setTrunk t x).port q = s.port q := by cases t <;> rfl
@[simp] theorem State.image_setTrunk (s : State) (t : TrunkId) (x : Trunk) (k : Station) : (s.setTrunk t x).image k = s.image k := by cases t <;> rfl
@[simp] theorem State.limit_setTrunk (s : State) (t : TrunkId) (x : Trunk) (k : Station) : (s.setTrunk t x).limit k = s.limit k := by cases t <;> rfl
@[simp] theorem State.map_setTrunk (s : State) (t : TrunkId) (x : Trunk) (k : Station) : (s.setTrunk t x).map k = s.map k := by cases t <;> rfl
@[simp] theorem State.offer_setTrunk (s : State) (t : TrunkId) (x : Trunk) (q : PortId) : (s.setTrunk t x).offer q = s.offer q := by cases t <;> rfl
@[simp] theorem State.schedule_setTrunk (s : State) (t : TrunkId) (x : Trunk) (u : TrunkId) : (s.setTrunk t x).schedule u = s.schedule u := by cases t <;> cases u <;> rfl
@[simp] theorem State.refused_setTrunk (s : State) (t : TrunkId) (x : Trunk) (u : TrunkId) : (s.setTrunk t x).refused u = s.refused u := by cases t <;> cases u <;> rfl
@[simp] theorem State.params_setTrunk (s : State) (t : TrunkId) (x : Trunk) : (s.setTrunk t x).params = s.params := by cases t <;> rfl
@[simp] theorem State.nowMs_setTrunk (s : State) (t : TrunkId) (x : Trunk) : (s.setTrunk t x).nowMs = s.nowMs := by cases t <;> rfl

/-! ## What `setImage` leaves alone -/

@[simp] theorem State.setImage_powered (s : State) (l : Station) (x : Image) : (s.setImage l x).powered = s.powered := rfl
@[simp] theorem State.setImage_clock (s : State) (l : Station) (x : Image) : (s.setImage l x).clock = s.clock := rfl
@[simp] theorem State.setImage_ties (s : State) (l : Station) (x : Image) : (s.setImage l x).ties = s.ties := rfl
@[simp] theorem State.setImage_work (s : State) (l : Station) (x : Image) : (s.setImage l x).work = s.work := rfl
@[simp] theorem State.setImage_copy (s : State) (l : Station) (x : Image) : (s.setImage l x).copy = s.copy := rfl
@[simp] theorem State.setImage_copyCheck (s : State) (l : Station) (x : Image) : (s.setImage l x).copyCheck = s.copyCheck := rfl
@[simp] theorem State.setImage_copyWhole (s : State) (l : Station) (x : Image) : (s.setImage l x).copyWhole = s.copyWhole := rfl
@[simp] theorem State.setImage_saving (s : State) (l : Station) (x : Image) : (s.setImage l x).saving = s.saving := rfl
@[simp] theorem State.setImage_configDefaulted (s : State) (l : Station) (x : Image) : (s.setImage l x).configDefaulted = s.configDefaulted := rfl
@[simp] theorem State.setImage_limits (s : State) (l : Station) (x : Image) : (s.setImage l x).limits = s.limits := rfl
@[simp] theorem State.setImage_trunkA (s : State) (l : Station) (x : Image) : (s.setImage l x).trunkA = s.trunkA := rfl
@[simp] theorem State.setImage_trunkB (s : State) (l : Station) (x : Image) : (s.setImage l x).trunkB = s.trunkB := rfl
@[simp] theorem State.setImage_candidates (s : State) (l : Station) (x : Image) : (s.setImage l x).candidates = s.candidates := rfl
@[simp] theorem State.setImage_overflow (s : State) (l : Station) (x : Image) : (s.setImage l x).overflow = s.overflow := rfl
@[simp] theorem State.setImage_refusedA (s : State) (l : Station) (x : Image) : (s.setImage l x).refusedA = s.refusedA := rfl
@[simp] theorem State.setImage_refusedB (s : State) (l : Station) (x : Image) : (s.setImage l x).refusedB = s.refusedB := rfl
@[simp] theorem State.setImage_offers (s : State) (l : Station) (x : Image) : (s.setImage l x).offers = s.offers := rfl
@[simp] theorem State.setImage_current (s : State) (l : Station) (x : Image) : (s.setImage l x).current = s.current := rfl
@[simp] theorem State.setImage_previous (s : State) (l : Station) (x : Image) : (s.setImage l x).previous = s.previous := rfl
@[simp] theorem State.setImage_sequence (s : State) (l : Station) (x : Image) : (s.setImage l x).sequence = s.sequence := rfl
@[simp] theorem State.setImage_setpoint (s : State) (l : Station) (x : Image) : (s.setImage l x).setpoint = s.setpoint := rfl
@[simp] theorem State.setImage_mode (s : State) (l : Station) (x : Image) : (s.setImage l x).mode = s.mode := rfl
@[simp] theorem State.setImage_clearMark (s : State) (l : Station) (x : Image) : (s.setImage l x).clearMark = s.clearMark := rfl
@[simp] theorem State.setImage_dispatchDue (s : State) (l : Station) (x : Image) : (s.setImage l x).dispatchDue = s.dispatchDue := rfl
@[simp] theorem State.setImage_limiterDue (s : State) (l : Station) (x : Image) : (s.setImage l x).limiterDue = s.limiterDue := rfl
@[simp] theorem State.setImage_ports (s : State) (l : Station) (x : Image) : (s.setImage l x).ports = s.ports := rfl
@[simp] theorem State.setImage_pending (s : State) (l : Station) (x : Image) : (s.setImage l x).pending = s.pending := rfl
@[simp] theorem State.port_setImage (s : State) (l : Station) (x : Image) (q : PortId) : (s.setImage l x).port q = s.port q := rfl
@[simp] theorem State.trunk_setImage (s : State) (l : Station) (x : Image) (u : TrunkId) : (s.setImage l x).trunk u = s.trunk u := by cases u <;> rfl
@[simp] theorem State.queue_setImage (s : State) (l : Station) (x : Image) (u : TrunkId) : (s.setImage l x).queue u = s.queue u := by cases u <;> rfl
@[simp] theorem State.limit_setImage (s : State) (l : Station) (x : Image) (k : Station) : (s.setImage l x).limit k = s.limit k := rfl
@[simp] theorem State.map_setImage (s : State) (l : Station) (x : Image) (k : Station) : (s.setImage l x).map k = s.map k := rfl
@[simp] theorem State.offer_setImage (s : State) (l : Station) (x : Image) (q : PortId) : (s.setImage l x).offer q = s.offer q := rfl
@[simp] theorem State.schedule_setImage (s : State) (l : Station) (x : Image) (u : TrunkId) : (s.setImage l x).schedule u = s.schedule u := by cases u <;> rfl
@[simp] theorem State.refused_setImage (s : State) (l : Station) (x : Image) (u : TrunkId) : (s.setImage l x).refused u = s.refused u := by cases u <;> rfl
@[simp] theorem State.params_setImage (s : State) (l : Station) (x : Image) : (s.setImage l x).params = s.params := rfl
@[simp] theorem State.nowMs_setImage (s : State) (l : Station) (x : Image) : (s.setImage l x).nowMs = s.nowMs := rfl

/-! ## What `setLimit` leaves alone -/

@[simp] theorem State.setLimit_powered (s : State) (l : Station) (x : LimitEntry) : (s.setLimit l x).powered = s.powered := rfl
@[simp] theorem State.setLimit_clock (s : State) (l : Station) (x : LimitEntry) : (s.setLimit l x).clock = s.clock := rfl
@[simp] theorem State.setLimit_ties (s : State) (l : Station) (x : LimitEntry) : (s.setLimit l x).ties = s.ties := rfl
@[simp] theorem State.setLimit_work (s : State) (l : Station) (x : LimitEntry) : (s.setLimit l x).work = s.work := rfl
@[simp] theorem State.setLimit_copy (s : State) (l : Station) (x : LimitEntry) : (s.setLimit l x).copy = s.copy := rfl
@[simp] theorem State.setLimit_copyCheck (s : State) (l : Station) (x : LimitEntry) : (s.setLimit l x).copyCheck = s.copyCheck := rfl
@[simp] theorem State.setLimit_copyWhole (s : State) (l : Station) (x : LimitEntry) : (s.setLimit l x).copyWhole = s.copyWhole := rfl
@[simp] theorem State.setLimit_saving (s : State) (l : Station) (x : LimitEntry) : (s.setLimit l x).saving = s.saving := rfl
@[simp] theorem State.setLimit_configDefaulted (s : State) (l : Station) (x : LimitEntry) : (s.setLimit l x).configDefaulted = s.configDefaulted := rfl
@[simp] theorem State.setLimit_images (s : State) (l : Station) (x : LimitEntry) : (s.setLimit l x).images = s.images := rfl
@[simp] theorem State.setLimit_trunkA (s : State) (l : Station) (x : LimitEntry) : (s.setLimit l x).trunkA = s.trunkA := rfl
@[simp] theorem State.setLimit_trunkB (s : State) (l : Station) (x : LimitEntry) : (s.setLimit l x).trunkB = s.trunkB := rfl
@[simp] theorem State.setLimit_candidates (s : State) (l : Station) (x : LimitEntry) : (s.setLimit l x).candidates = s.candidates := rfl
@[simp] theorem State.setLimit_overflow (s : State) (l : Station) (x : LimitEntry) : (s.setLimit l x).overflow = s.overflow := rfl
@[simp] theorem State.setLimit_refusedA (s : State) (l : Station) (x : LimitEntry) : (s.setLimit l x).refusedA = s.refusedA := rfl
@[simp] theorem State.setLimit_refusedB (s : State) (l : Station) (x : LimitEntry) : (s.setLimit l x).refusedB = s.refusedB := rfl
@[simp] theorem State.setLimit_offers (s : State) (l : Station) (x : LimitEntry) : (s.setLimit l x).offers = s.offers := rfl
@[simp] theorem State.setLimit_current (s : State) (l : Station) (x : LimitEntry) : (s.setLimit l x).current = s.current := rfl
@[simp] theorem State.setLimit_previous (s : State) (l : Station) (x : LimitEntry) : (s.setLimit l x).previous = s.previous := rfl
@[simp] theorem State.setLimit_sequence (s : State) (l : Station) (x : LimitEntry) : (s.setLimit l x).sequence = s.sequence := rfl
@[simp] theorem State.setLimit_setpoint (s : State) (l : Station) (x : LimitEntry) : (s.setLimit l x).setpoint = s.setpoint := rfl
@[simp] theorem State.setLimit_mode (s : State) (l : Station) (x : LimitEntry) : (s.setLimit l x).mode = s.mode := rfl
@[simp] theorem State.setLimit_clearMark (s : State) (l : Station) (x : LimitEntry) : (s.setLimit l x).clearMark = s.clearMark := rfl
@[simp] theorem State.setLimit_dispatchDue (s : State) (l : Station) (x : LimitEntry) : (s.setLimit l x).dispatchDue = s.dispatchDue := rfl
@[simp] theorem State.setLimit_limiterDue (s : State) (l : Station) (x : LimitEntry) : (s.setLimit l x).limiterDue = s.limiterDue := rfl
@[simp] theorem State.setLimit_ports (s : State) (l : Station) (x : LimitEntry) : (s.setLimit l x).ports = s.ports := rfl
@[simp] theorem State.setLimit_pending (s : State) (l : Station) (x : LimitEntry) : (s.setLimit l x).pending = s.pending := rfl
@[simp] theorem State.port_setLimit (s : State) (l : Station) (x : LimitEntry) (q : PortId) : (s.setLimit l x).port q = s.port q := rfl
@[simp] theorem State.trunk_setLimit (s : State) (l : Station) (x : LimitEntry) (u : TrunkId) : (s.setLimit l x).trunk u = s.trunk u := by cases u <;> rfl
@[simp] theorem State.queue_setLimit (s : State) (l : Station) (x : LimitEntry) (u : TrunkId) : (s.setLimit l x).queue u = s.queue u := by cases u <;> rfl
@[simp] theorem State.image_setLimit (s : State) (l : Station) (x : LimitEntry) (k : Station) : (s.setLimit l x).image k = s.image k := rfl
@[simp] theorem State.map_setLimit (s : State) (l : Station) (x : LimitEntry) (k : Station) : (s.setLimit l x).map k = s.map k := rfl
@[simp] theorem State.offer_setLimit (s : State) (l : Station) (x : LimitEntry) (q : PortId) : (s.setLimit l x).offer q = s.offer q := rfl
@[simp] theorem State.schedule_setLimit (s : State) (l : Station) (x : LimitEntry) (u : TrunkId) : (s.setLimit l x).schedule u = s.schedule u := by cases u <;> rfl
@[simp] theorem State.refused_setLimit (s : State) (l : Station) (x : LimitEntry) (u : TrunkId) : (s.setLimit l x).refused u = s.refused u := by cases u <;> rfl
@[simp] theorem State.params_setLimit (s : State) (l : Station) (x : LimitEntry) : (s.setLimit l x).params = s.params := rfl
@[simp] theorem State.nowMs_setLimit (s : State) (l : Station) (x : LimitEntry) : (s.setLimit l x).nowMs = s.nowMs := rfl

/-! ## What `setMap` leaves alone -/

@[simp] theorem State.setMap_powered (s : State) (l : Station) (x : MapPart) : (s.setMap l x).powered = s.powered := rfl
@[simp] theorem State.setMap_clock (s : State) (l : Station) (x : MapPart) : (s.setMap l x).clock = s.clock := rfl
@[simp] theorem State.setMap_ties (s : State) (l : Station) (x : MapPart) : (s.setMap l x).ties = s.ties := rfl
@[simp] theorem State.setMap_copy (s : State) (l : Station) (x : MapPart) : (s.setMap l x).copy = s.copy := rfl
@[simp] theorem State.setMap_copyCheck (s : State) (l : Station) (x : MapPart) : (s.setMap l x).copyCheck = s.copyCheck := rfl
@[simp] theorem State.setMap_copyWhole (s : State) (l : Station) (x : MapPart) : (s.setMap l x).copyWhole = s.copyWhole := rfl
@[simp] theorem State.setMap_saving (s : State) (l : Station) (x : MapPart) : (s.setMap l x).saving = s.saving := rfl
@[simp] theorem State.setMap_configDefaulted (s : State) (l : Station) (x : MapPart) : (s.setMap l x).configDefaulted = s.configDefaulted := rfl
@[simp] theorem State.setMap_images (s : State) (l : Station) (x : MapPart) : (s.setMap l x).images = s.images := rfl
@[simp] theorem State.setMap_limits (s : State) (l : Station) (x : MapPart) : (s.setMap l x).limits = s.limits := rfl
@[simp] theorem State.setMap_trunkA (s : State) (l : Station) (x : MapPart) : (s.setMap l x).trunkA = s.trunkA := rfl
@[simp] theorem State.setMap_trunkB (s : State) (l : Station) (x : MapPart) : (s.setMap l x).trunkB = s.trunkB := rfl
@[simp] theorem State.setMap_candidates (s : State) (l : Station) (x : MapPart) : (s.setMap l x).candidates = s.candidates := rfl
@[simp] theorem State.setMap_overflow (s : State) (l : Station) (x : MapPart) : (s.setMap l x).overflow = s.overflow := rfl
@[simp] theorem State.setMap_refusedA (s : State) (l : Station) (x : MapPart) : (s.setMap l x).refusedA = s.refusedA := rfl
@[simp] theorem State.setMap_refusedB (s : State) (l : Station) (x : MapPart) : (s.setMap l x).refusedB = s.refusedB := rfl
@[simp] theorem State.setMap_offers (s : State) (l : Station) (x : MapPart) : (s.setMap l x).offers = s.offers := rfl
@[simp] theorem State.setMap_current (s : State) (l : Station) (x : MapPart) : (s.setMap l x).current = s.current := rfl
@[simp] theorem State.setMap_previous (s : State) (l : Station) (x : MapPart) : (s.setMap l x).previous = s.previous := rfl
@[simp] theorem State.setMap_sequence (s : State) (l : Station) (x : MapPart) : (s.setMap l x).sequence = s.sequence := rfl
@[simp] theorem State.setMap_setpoint (s : State) (l : Station) (x : MapPart) : (s.setMap l x).setpoint = s.setpoint := rfl
@[simp] theorem State.setMap_mode (s : State) (l : Station) (x : MapPart) : (s.setMap l x).mode = s.mode := rfl
@[simp] theorem State.setMap_clearMark (s : State) (l : Station) (x : MapPart) : (s.setMap l x).clearMark = s.clearMark := rfl
@[simp] theorem State.setMap_dispatchDue (s : State) (l : Station) (x : MapPart) : (s.setMap l x).dispatchDue = s.dispatchDue := rfl
@[simp] theorem State.setMap_limiterDue (s : State) (l : Station) (x : MapPart) : (s.setMap l x).limiterDue = s.limiterDue := rfl
@[simp] theorem State.setMap_ports (s : State) (l : Station) (x : MapPart) : (s.setMap l x).ports = s.ports := rfl
@[simp] theorem State.setMap_pending (s : State) (l : Station) (x : MapPart) : (s.setMap l x).pending = s.pending := rfl
@[simp] theorem State.port_setMap (s : State) (l : Station) (x : MapPart) (q : PortId) : (s.setMap l x).port q = s.port q := rfl
@[simp] theorem State.trunk_setMap (s : State) (l : Station) (x : MapPart) (u : TrunkId) : (s.setMap l x).trunk u = s.trunk u := by cases u <;> rfl
@[simp] theorem State.queue_setMap (s : State) (l : Station) (x : MapPart) (u : TrunkId) : (s.setMap l x).queue u = s.queue u := by cases u <;> rfl
@[simp] theorem State.image_setMap (s : State) (l : Station) (x : MapPart) (k : Station) : (s.setMap l x).image k = s.image k := rfl
@[simp] theorem State.limit_setMap (s : State) (l : Station) (x : MapPart) (k : Station) : (s.setMap l x).limit k = s.limit k := rfl
@[simp] theorem State.offer_setMap (s : State) (l : Station) (x : MapPart) (q : PortId) : (s.setMap l x).offer q = s.offer q := rfl
@[simp] theorem State.refused_setMap (s : State) (l : Station) (x : MapPart) (u : TrunkId) : (s.setMap l x).refused u = s.refused u := by cases u <;> rfl
@[simp] theorem State.nowMs_setMap (s : State) (l : Station) (x : MapPart) : (s.setMap l x).nowMs = s.nowMs := rfl

/-! ## What `setOffer` leaves alone -/

@[simp] theorem State.setOffer_powered (s : State) (p : PortId) (x : Option Offer) : (s.setOffer p x).powered = s.powered := rfl
@[simp] theorem State.setOffer_clock (s : State) (p : PortId) (x : Option Offer) : (s.setOffer p x).clock = s.clock := rfl
@[simp] theorem State.setOffer_ties (s : State) (p : PortId) (x : Option Offer) : (s.setOffer p x).ties = s.ties := rfl
@[simp] theorem State.setOffer_work (s : State) (p : PortId) (x : Option Offer) : (s.setOffer p x).work = s.work := rfl
@[simp] theorem State.setOffer_copy (s : State) (p : PortId) (x : Option Offer) : (s.setOffer p x).copy = s.copy := rfl
@[simp] theorem State.setOffer_copyCheck (s : State) (p : PortId) (x : Option Offer) : (s.setOffer p x).copyCheck = s.copyCheck := rfl
@[simp] theorem State.setOffer_copyWhole (s : State) (p : PortId) (x : Option Offer) : (s.setOffer p x).copyWhole = s.copyWhole := rfl
@[simp] theorem State.setOffer_saving (s : State) (p : PortId) (x : Option Offer) : (s.setOffer p x).saving = s.saving := rfl
@[simp] theorem State.setOffer_configDefaulted (s : State) (p : PortId) (x : Option Offer) : (s.setOffer p x).configDefaulted = s.configDefaulted := rfl
@[simp] theorem State.setOffer_images (s : State) (p : PortId) (x : Option Offer) : (s.setOffer p x).images = s.images := rfl
@[simp] theorem State.setOffer_limits (s : State) (p : PortId) (x : Option Offer) : (s.setOffer p x).limits = s.limits := rfl
@[simp] theorem State.setOffer_trunkA (s : State) (p : PortId) (x : Option Offer) : (s.setOffer p x).trunkA = s.trunkA := rfl
@[simp] theorem State.setOffer_trunkB (s : State) (p : PortId) (x : Option Offer) : (s.setOffer p x).trunkB = s.trunkB := rfl
@[simp] theorem State.setOffer_candidates (s : State) (p : PortId) (x : Option Offer) : (s.setOffer p x).candidates = s.candidates := rfl
@[simp] theorem State.setOffer_overflow (s : State) (p : PortId) (x : Option Offer) : (s.setOffer p x).overflow = s.overflow := rfl
@[simp] theorem State.setOffer_refusedA (s : State) (p : PortId) (x : Option Offer) : (s.setOffer p x).refusedA = s.refusedA := rfl
@[simp] theorem State.setOffer_refusedB (s : State) (p : PortId) (x : Option Offer) : (s.setOffer p x).refusedB = s.refusedB := rfl
@[simp] theorem State.setOffer_current (s : State) (p : PortId) (x : Option Offer) : (s.setOffer p x).current = s.current := rfl
@[simp] theorem State.setOffer_previous (s : State) (p : PortId) (x : Option Offer) : (s.setOffer p x).previous = s.previous := rfl
@[simp] theorem State.setOffer_sequence (s : State) (p : PortId) (x : Option Offer) : (s.setOffer p x).sequence = s.sequence := rfl
@[simp] theorem State.setOffer_setpoint (s : State) (p : PortId) (x : Option Offer) : (s.setOffer p x).setpoint = s.setpoint := rfl
@[simp] theorem State.setOffer_mode (s : State) (p : PortId) (x : Option Offer) : (s.setOffer p x).mode = s.mode := rfl
@[simp] theorem State.setOffer_clearMark (s : State) (p : PortId) (x : Option Offer) : (s.setOffer p x).clearMark = s.clearMark := rfl
@[simp] theorem State.setOffer_dispatchDue (s : State) (p : PortId) (x : Option Offer) : (s.setOffer p x).dispatchDue = s.dispatchDue := rfl
@[simp] theorem State.setOffer_limiterDue (s : State) (p : PortId) (x : Option Offer) : (s.setOffer p x).limiterDue = s.limiterDue := rfl
@[simp] theorem State.setOffer_ports (s : State) (p : PortId) (x : Option Offer) : (s.setOffer p x).ports = s.ports := rfl
@[simp] theorem State.setOffer_pending (s : State) (p : PortId) (x : Option Offer) : (s.setOffer p x).pending = s.pending := rfl
@[simp] theorem State.port_setOffer (s : State) (p : PortId) (x : Option Offer) (q : PortId) : (s.setOffer p x).port q = s.port q := rfl
@[simp] theorem State.trunk_setOffer (s : State) (p : PortId) (x : Option Offer) (u : TrunkId) : (s.setOffer p x).trunk u = s.trunk u := by cases u <;> rfl
@[simp] theorem State.queue_setOffer (s : State) (p : PortId) (x : Option Offer) (u : TrunkId) : (s.setOffer p x).queue u = s.queue u := by cases u <;> rfl
@[simp] theorem State.image_setOffer (s : State) (p : PortId) (x : Option Offer) (k : Station) : (s.setOffer p x).image k = s.image k := rfl
@[simp] theorem State.limit_setOffer (s : State) (p : PortId) (x : Option Offer) (k : Station) : (s.setOffer p x).limit k = s.limit k := rfl
@[simp] theorem State.map_setOffer (s : State) (p : PortId) (x : Option Offer) (k : Station) : (s.setOffer p x).map k = s.map k := rfl
@[simp] theorem State.schedule_setOffer (s : State) (p : PortId) (x : Option Offer) (u : TrunkId) : (s.setOffer p x).schedule u = s.schedule u := by cases u <;> rfl
@[simp] theorem State.refused_setOffer (s : State) (p : PortId) (x : Option Offer) (u : TrunkId) : (s.setOffer p x).refused u = s.refused u := by cases u <;> rfl
@[simp] theorem State.params_setOffer (s : State) (p : PortId) (x : Option Offer) : (s.setOffer p x).params = s.params := rfl
@[simp] theorem State.nowMs_setOffer (s : State) (p : PortId) (x : Option Offer) : (s.setOffer p x).nowMs = s.nowMs := rfl

/-! ## What `setSlotEntry` leaves alone -/

@[simp] theorem State.setSlotEntry_powered (s : State) (t : TrunkId) (i : EntryIndex) (x : SlotEntry) : (s.setSlotEntry t i x).powered = s.powered := by cases t <;> rfl
@[simp] theorem State.setSlotEntry_clock (s : State) (t : TrunkId) (i : EntryIndex) (x : SlotEntry) : (s.setSlotEntry t i x).clock = s.clock := by cases t <;> rfl
@[simp] theorem State.setSlotEntry_ties (s : State) (t : TrunkId) (i : EntryIndex) (x : SlotEntry) : (s.setSlotEntry t i x).ties = s.ties := by cases t <;> rfl
@[simp] theorem State.setSlotEntry_copy (s : State) (t : TrunkId) (i : EntryIndex) (x : SlotEntry) : (s.setSlotEntry t i x).copy = s.copy := by cases t <;> rfl
@[simp] theorem State.setSlotEntry_copyCheck (s : State) (t : TrunkId) (i : EntryIndex) (x : SlotEntry) : (s.setSlotEntry t i x).copyCheck = s.copyCheck := by cases t <;> rfl
@[simp] theorem State.setSlotEntry_copyWhole (s : State) (t : TrunkId) (i : EntryIndex) (x : SlotEntry) : (s.setSlotEntry t i x).copyWhole = s.copyWhole := by cases t <;> rfl
@[simp] theorem State.setSlotEntry_saving (s : State) (t : TrunkId) (i : EntryIndex) (x : SlotEntry) : (s.setSlotEntry t i x).saving = s.saving := by cases t <;> rfl
@[simp] theorem State.setSlotEntry_configDefaulted (s : State) (t : TrunkId) (i : EntryIndex) (x : SlotEntry) : (s.setSlotEntry t i x).configDefaulted = s.configDefaulted := by cases t <;> rfl
@[simp] theorem State.setSlotEntry_images (s : State) (t : TrunkId) (i : EntryIndex) (x : SlotEntry) : (s.setSlotEntry t i x).images = s.images := by cases t <;> rfl
@[simp] theorem State.setSlotEntry_limits (s : State) (t : TrunkId) (i : EntryIndex) (x : SlotEntry) : (s.setSlotEntry t i x).limits = s.limits := by cases t <;> rfl
@[simp] theorem State.setSlotEntry_trunkA (s : State) (t : TrunkId) (i : EntryIndex) (x : SlotEntry) : (s.setSlotEntry t i x).trunkA = s.trunkA := by cases t <;> rfl
@[simp] theorem State.setSlotEntry_trunkB (s : State) (t : TrunkId) (i : EntryIndex) (x : SlotEntry) : (s.setSlotEntry t i x).trunkB = s.trunkB := by cases t <;> rfl
@[simp] theorem State.setSlotEntry_candidates (s : State) (t : TrunkId) (i : EntryIndex) (x : SlotEntry) : (s.setSlotEntry t i x).candidates = s.candidates := by cases t <;> rfl
@[simp] theorem State.setSlotEntry_overflow (s : State) (t : TrunkId) (i : EntryIndex) (x : SlotEntry) : (s.setSlotEntry t i x).overflow = s.overflow := by cases t <;> rfl
@[simp] theorem State.setSlotEntry_refusedA (s : State) (t : TrunkId) (i : EntryIndex) (x : SlotEntry) : (s.setSlotEntry t i x).refusedA = s.refusedA := by cases t <;> rfl
@[simp] theorem State.setSlotEntry_refusedB (s : State) (t : TrunkId) (i : EntryIndex) (x : SlotEntry) : (s.setSlotEntry t i x).refusedB = s.refusedB := by cases t <;> rfl
@[simp] theorem State.setSlotEntry_offers (s : State) (t : TrunkId) (i : EntryIndex) (x : SlotEntry) : (s.setSlotEntry t i x).offers = s.offers := by cases t <;> rfl
@[simp] theorem State.setSlotEntry_current (s : State) (t : TrunkId) (i : EntryIndex) (x : SlotEntry) : (s.setSlotEntry t i x).current = s.current := by cases t <;> rfl
@[simp] theorem State.setSlotEntry_previous (s : State) (t : TrunkId) (i : EntryIndex) (x : SlotEntry) : (s.setSlotEntry t i x).previous = s.previous := by cases t <;> rfl
@[simp] theorem State.setSlotEntry_sequence (s : State) (t : TrunkId) (i : EntryIndex) (x : SlotEntry) : (s.setSlotEntry t i x).sequence = s.sequence := by cases t <;> rfl
@[simp] theorem State.setSlotEntry_setpoint (s : State) (t : TrunkId) (i : EntryIndex) (x : SlotEntry) : (s.setSlotEntry t i x).setpoint = s.setpoint := by cases t <;> rfl
@[simp] theorem State.setSlotEntry_mode (s : State) (t : TrunkId) (i : EntryIndex) (x : SlotEntry) : (s.setSlotEntry t i x).mode = s.mode := by cases t <;> rfl
@[simp] theorem State.setSlotEntry_clearMark (s : State) (t : TrunkId) (i : EntryIndex) (x : SlotEntry) : (s.setSlotEntry t i x).clearMark = s.clearMark := by cases t <;> rfl
@[simp] theorem State.setSlotEntry_dispatchDue (s : State) (t : TrunkId) (i : EntryIndex) (x : SlotEntry) : (s.setSlotEntry t i x).dispatchDue = s.dispatchDue := by cases t <;> rfl
@[simp] theorem State.setSlotEntry_limiterDue (s : State) (t : TrunkId) (i : EntryIndex) (x : SlotEntry) : (s.setSlotEntry t i x).limiterDue = s.limiterDue := by cases t <;> rfl
@[simp] theorem State.setSlotEntry_ports (s : State) (t : TrunkId) (i : EntryIndex) (x : SlotEntry) : (s.setSlotEntry t i x).ports = s.ports := by cases t <;> rfl
@[simp] theorem State.setSlotEntry_pending (s : State) (t : TrunkId) (i : EntryIndex) (x : SlotEntry) : (s.setSlotEntry t i x).pending = s.pending := by cases t <;> rfl
@[simp] theorem State.port_setSlotEntry (s : State) (t : TrunkId) (i : EntryIndex) (x : SlotEntry) (q : PortId) : (s.setSlotEntry t i x).port q = s.port q := by cases t <;> rfl
@[simp] theorem State.trunk_setSlotEntry (s : State) (t : TrunkId) (i : EntryIndex) (x : SlotEntry) (u : TrunkId) : (s.setSlotEntry t i x).trunk u = s.trunk u := by cases t <;> cases u <;> rfl
@[simp] theorem State.queue_setSlotEntry (s : State) (t : TrunkId) (i : EntryIndex) (x : SlotEntry) (u : TrunkId) : (s.setSlotEntry t i x).queue u = s.queue u := by cases t <;> cases u <;> rfl
@[simp] theorem State.image_setSlotEntry (s : State) (t : TrunkId) (i : EntryIndex) (x : SlotEntry) (k : Station) : (s.setSlotEntry t i x).image k = s.image k := by cases t <;> rfl
@[simp] theorem State.limit_setSlotEntry (s : State) (t : TrunkId) (i : EntryIndex) (x : SlotEntry) (k : Station) : (s.setSlotEntry t i x).limit k = s.limit k := by cases t <;> rfl
@[simp] theorem State.offer_setSlotEntry (s : State) (t : TrunkId) (i : EntryIndex) (x : SlotEntry) (q : PortId) : (s.setSlotEntry t i x).offer q = s.offer q := by cases t <;> rfl
@[simp] theorem State.refused_setSlotEntry (s : State) (t : TrunkId) (i : EntryIndex) (x : SlotEntry) (u : TrunkId) : (s.setSlotEntry t i x).refused u = s.refused u := by cases t <;> cases u <;> rfl
@[simp] theorem State.nowMs_setSlotEntry (s : State) (t : TrunkId) (i : EntryIndex) (x : SlotEntry) : (s.setSlotEntry t i x).nowMs = s.nowMs := by cases t <;> rfl

/-! ## What `setRefused` leaves alone -/

@[simp] theorem State.setRefused_powered (s : State) (t : TrunkId) (x : List Nat) : (s.setRefused t x).powered = s.powered := by cases t <;> rfl
@[simp] theorem State.setRefused_clock (s : State) (t : TrunkId) (x : List Nat) : (s.setRefused t x).clock = s.clock := by cases t <;> rfl
@[simp] theorem State.setRefused_ties (s : State) (t : TrunkId) (x : List Nat) : (s.setRefused t x).ties = s.ties := by cases t <;> rfl
@[simp] theorem State.setRefused_work (s : State) (t : TrunkId) (x : List Nat) : (s.setRefused t x).work = s.work := by cases t <;> rfl
@[simp] theorem State.setRefused_copy (s : State) (t : TrunkId) (x : List Nat) : (s.setRefused t x).copy = s.copy := by cases t <;> rfl
@[simp] theorem State.setRefused_copyCheck (s : State) (t : TrunkId) (x : List Nat) : (s.setRefused t x).copyCheck = s.copyCheck := by cases t <;> rfl
@[simp] theorem State.setRefused_copyWhole (s : State) (t : TrunkId) (x : List Nat) : (s.setRefused t x).copyWhole = s.copyWhole := by cases t <;> rfl
@[simp] theorem State.setRefused_saving (s : State) (t : TrunkId) (x : List Nat) : (s.setRefused t x).saving = s.saving := by cases t <;> rfl
@[simp] theorem State.setRefused_configDefaulted (s : State) (t : TrunkId) (x : List Nat) : (s.setRefused t x).configDefaulted = s.configDefaulted := by cases t <;> rfl
@[simp] theorem State.setRefused_images (s : State) (t : TrunkId) (x : List Nat) : (s.setRefused t x).images = s.images := by cases t <;> rfl
@[simp] theorem State.setRefused_limits (s : State) (t : TrunkId) (x : List Nat) : (s.setRefused t x).limits = s.limits := by cases t <;> rfl
@[simp] theorem State.setRefused_trunkA (s : State) (t : TrunkId) (x : List Nat) : (s.setRefused t x).trunkA = s.trunkA := by cases t <;> rfl
@[simp] theorem State.setRefused_trunkB (s : State) (t : TrunkId) (x : List Nat) : (s.setRefused t x).trunkB = s.trunkB := by cases t <;> rfl
@[simp] theorem State.setRefused_candidates (s : State) (t : TrunkId) (x : List Nat) : (s.setRefused t x).candidates = s.candidates := by cases t <;> rfl
@[simp] theorem State.setRefused_overflow (s : State) (t : TrunkId) (x : List Nat) : (s.setRefused t x).overflow = s.overflow := by cases t <;> rfl
@[simp] theorem State.setRefused_offers (s : State) (t : TrunkId) (x : List Nat) : (s.setRefused t x).offers = s.offers := by cases t <;> rfl
@[simp] theorem State.setRefused_current (s : State) (t : TrunkId) (x : List Nat) : (s.setRefused t x).current = s.current := by cases t <;> rfl
@[simp] theorem State.setRefused_previous (s : State) (t : TrunkId) (x : List Nat) : (s.setRefused t x).previous = s.previous := by cases t <;> rfl
@[simp] theorem State.setRefused_sequence (s : State) (t : TrunkId) (x : List Nat) : (s.setRefused t x).sequence = s.sequence := by cases t <;> rfl
@[simp] theorem State.setRefused_setpoint (s : State) (t : TrunkId) (x : List Nat) : (s.setRefused t x).setpoint = s.setpoint := by cases t <;> rfl
@[simp] theorem State.setRefused_mode (s : State) (t : TrunkId) (x : List Nat) : (s.setRefused t x).mode = s.mode := by cases t <;> rfl
@[simp] theorem State.setRefused_clearMark (s : State) (t : TrunkId) (x : List Nat) : (s.setRefused t x).clearMark = s.clearMark := by cases t <;> rfl
@[simp] theorem State.setRefused_dispatchDue (s : State) (t : TrunkId) (x : List Nat) : (s.setRefused t x).dispatchDue = s.dispatchDue := by cases t <;> rfl
@[simp] theorem State.setRefused_limiterDue (s : State) (t : TrunkId) (x : List Nat) : (s.setRefused t x).limiterDue = s.limiterDue := by cases t <;> rfl
@[simp] theorem State.setRefused_ports (s : State) (t : TrunkId) (x : List Nat) : (s.setRefused t x).ports = s.ports := by cases t <;> rfl
@[simp] theorem State.setRefused_pending (s : State) (t : TrunkId) (x : List Nat) : (s.setRefused t x).pending = s.pending := by cases t <;> rfl
@[simp] theorem State.port_setRefused (s : State) (t : TrunkId) (x : List Nat) (q : PortId) : (s.setRefused t x).port q = s.port q := by cases t <;> rfl
@[simp] theorem State.trunk_setRefused (s : State) (t : TrunkId) (x : List Nat) (u : TrunkId) : (s.setRefused t x).trunk u = s.trunk u := by cases t <;> cases u <;> rfl
@[simp] theorem State.queue_setRefused (s : State) (t : TrunkId) (x : List Nat) (u : TrunkId) : (s.setRefused t x).queue u = s.queue u := by cases t <;> cases u <;> rfl
@[simp] theorem State.image_setRefused (s : State) (t : TrunkId) (x : List Nat) (k : Station) : (s.setRefused t x).image k = s.image k := by cases t <;> rfl
@[simp] theorem State.limit_setRefused (s : State) (t : TrunkId) (x : List Nat) (k : Station) : (s.setRefused t x).limit k = s.limit k := by cases t <;> rfl
@[simp] theorem State.map_setRefused (s : State) (t : TrunkId) (x : List Nat) (k : Station) : (s.setRefused t x).map k = s.map k := by cases t <;> rfl
@[simp] theorem State.offer_setRefused (s : State) (t : TrunkId) (x : List Nat) (q : PortId) : (s.setRefused t x).offer q = s.offer q := by cases t <;> rfl
@[simp] theorem State.schedule_setRefused (s : State) (t : TrunkId) (x : List Nat) (u : TrunkId) : (s.setRefused t x).schedule u = s.schedule u := by cases t <;> cases u <;> rfl
@[simp] theorem State.params_setRefused (s : State) (t : TrunkId) (x : List Nat) : (s.setRefused t x).params = s.params := by cases t <;> rfl
@[simp] theorem State.nowMs_setRefused (s : State) (t : TrunkId) (x : List Nat) : (s.setRefused t x).nowMs = s.nowMs := by cases t <;> rfl

/-! ## What `setParams` leaves alone -/

@[simp] theorem State.setParams_powered (s : State) (x : Params) : (s.setParams x).powered = s.powered := rfl
@[simp] theorem State.setParams_clock (s : State) (x : Params) : (s.setParams x).clock = s.clock := rfl
@[simp] theorem State.setParams_ties (s : State) (x : Params) : (s.setParams x).ties = s.ties := rfl
@[simp] theorem State.setParams_copy (s : State) (x : Params) : (s.setParams x).copy = s.copy := rfl
@[simp] theorem State.setParams_copyCheck (s : State) (x : Params) : (s.setParams x).copyCheck = s.copyCheck := rfl
@[simp] theorem State.setParams_copyWhole (s : State) (x : Params) : (s.setParams x).copyWhole = s.copyWhole := rfl
@[simp] theorem State.setParams_saving (s : State) (x : Params) : (s.setParams x).saving = s.saving := rfl
@[simp] theorem State.setParams_configDefaulted (s : State) (x : Params) : (s.setParams x).configDefaulted = s.configDefaulted := rfl
@[simp] theorem State.setParams_images (s : State) (x : Params) : (s.setParams x).images = s.images := rfl
@[simp] theorem State.setParams_limits (s : State) (x : Params) : (s.setParams x).limits = s.limits := rfl
@[simp] theorem State.setParams_trunkA (s : State) (x : Params) : (s.setParams x).trunkA = s.trunkA := rfl
@[simp] theorem State.setParams_trunkB (s : State) (x : Params) : (s.setParams x).trunkB = s.trunkB := rfl
@[simp] theorem State.setParams_candidates (s : State) (x : Params) : (s.setParams x).candidates = s.candidates := rfl
@[simp] theorem State.setParams_overflow (s : State) (x : Params) : (s.setParams x).overflow = s.overflow := rfl
@[simp] theorem State.setParams_refusedA (s : State) (x : Params) : (s.setParams x).refusedA = s.refusedA := rfl
@[simp] theorem State.setParams_refusedB (s : State) (x : Params) : (s.setParams x).refusedB = s.refusedB := rfl
@[simp] theorem State.setParams_offers (s : State) (x : Params) : (s.setParams x).offers = s.offers := rfl
@[simp] theorem State.setParams_current (s : State) (x : Params) : (s.setParams x).current = s.current := rfl
@[simp] theorem State.setParams_previous (s : State) (x : Params) : (s.setParams x).previous = s.previous := rfl
@[simp] theorem State.setParams_sequence (s : State) (x : Params) : (s.setParams x).sequence = s.sequence := rfl
@[simp] theorem State.setParams_setpoint (s : State) (x : Params) : (s.setParams x).setpoint = s.setpoint := rfl
@[simp] theorem State.setParams_mode (s : State) (x : Params) : (s.setParams x).mode = s.mode := rfl
@[simp] theorem State.setParams_clearMark (s : State) (x : Params) : (s.setParams x).clearMark = s.clearMark := rfl
@[simp] theorem State.setParams_dispatchDue (s : State) (x : Params) : (s.setParams x).dispatchDue = s.dispatchDue := rfl
@[simp] theorem State.setParams_limiterDue (s : State) (x : Params) : (s.setParams x).limiterDue = s.limiterDue := rfl
@[simp] theorem State.setParams_ports (s : State) (x : Params) : (s.setParams x).ports = s.ports := rfl
@[simp] theorem State.setParams_pending (s : State) (x : Params) : (s.setParams x).pending = s.pending := rfl
@[simp] theorem State.port_setParams (s : State) (x : Params) (q : PortId) : (s.setParams x).port q = s.port q := rfl
@[simp] theorem State.trunk_setParams (s : State) (x : Params) (u : TrunkId) : (s.setParams x).trunk u = s.trunk u := by cases u <;> rfl
@[simp] theorem State.queue_setParams (s : State) (x : Params) (u : TrunkId) : (s.setParams x).queue u = s.queue u := by cases u <;> rfl
@[simp] theorem State.image_setParams (s : State) (x : Params) (k : Station) : (s.setParams x).image k = s.image k := rfl
@[simp] theorem State.limit_setParams (s : State) (x : Params) (k : Station) : (s.setParams x).limit k = s.limit k := rfl
@[simp] theorem State.offer_setParams (s : State) (x : Params) (q : PortId) : (s.setParams x).offer q = s.offer q := rfl
@[simp] theorem State.refused_setParams (s : State) (x : Params) (u : TrunkId) : (s.setParams x).refused u = s.refused u := by cases u <;> rfl
@[simp] theorem State.nowMs_setParams (s : State) (x : Params) : (s.setParams x).nowMs = s.nowMs := rfl

/-! ## What `await` leaves alone -/

@[simp] theorem State.await_powered (s : State) (n : Nat) : (s.await n).powered = s.powered := rfl
@[simp] theorem State.await_ties (s : State) (n : Nat) : (s.await n).ties = s.ties := rfl
@[simp] theorem State.await_work (s : State) (n : Nat) : (s.await n).work = s.work := rfl
@[simp] theorem State.await_copy (s : State) (n : Nat) : (s.await n).copy = s.copy := rfl
@[simp] theorem State.await_copyCheck (s : State) (n : Nat) : (s.await n).copyCheck = s.copyCheck := rfl
@[simp] theorem State.await_copyWhole (s : State) (n : Nat) : (s.await n).copyWhole = s.copyWhole := rfl
@[simp] theorem State.await_saving (s : State) (n : Nat) : (s.await n).saving = s.saving := rfl
@[simp] theorem State.await_configDefaulted (s : State) (n : Nat) : (s.await n).configDefaulted = s.configDefaulted := rfl
@[simp] theorem State.await_images (s : State) (n : Nat) : (s.await n).images = s.images := rfl
@[simp] theorem State.await_limits (s : State) (n : Nat) : (s.await n).limits = s.limits := rfl
@[simp] theorem State.await_trunkA (s : State) (n : Nat) : (s.await n).trunkA = s.trunkA := rfl
@[simp] theorem State.await_trunkB (s : State) (n : Nat) : (s.await n).trunkB = s.trunkB := rfl
@[simp] theorem State.await_candidates (s : State) (n : Nat) : (s.await n).candidates = s.candidates := rfl
@[simp] theorem State.await_overflow (s : State) (n : Nat) : (s.await n).overflow = s.overflow := rfl
@[simp] theorem State.await_refusedA (s : State) (n : Nat) : (s.await n).refusedA = s.refusedA := rfl
@[simp] theorem State.await_refusedB (s : State) (n : Nat) : (s.await n).refusedB = s.refusedB := rfl
@[simp] theorem State.await_offers (s : State) (n : Nat) : (s.await n).offers = s.offers := rfl
@[simp] theorem State.await_current (s : State) (n : Nat) : (s.await n).current = s.current := rfl
@[simp] theorem State.await_previous (s : State) (n : Nat) : (s.await n).previous = s.previous := rfl
@[simp] theorem State.await_sequence (s : State) (n : Nat) : (s.await n).sequence = s.sequence := rfl
@[simp] theorem State.await_setpoint (s : State) (n : Nat) : (s.await n).setpoint = s.setpoint := rfl
@[simp] theorem State.await_mode (s : State) (n : Nat) : (s.await n).mode = s.mode := rfl
@[simp] theorem State.await_clearMark (s : State) (n : Nat) : (s.await n).clearMark = s.clearMark := rfl
@[simp] theorem State.await_dispatchDue (s : State) (n : Nat) : (s.await n).dispatchDue = s.dispatchDue := rfl
@[simp] theorem State.await_limiterDue (s : State) (n : Nat) : (s.await n).limiterDue = s.limiterDue := rfl
@[simp] theorem State.await_ports (s : State) (n : Nat) : (s.await n).ports = s.ports := rfl
@[simp] theorem State.await_pending (s : State) (n : Nat) : (s.await n).pending = s.pending := rfl
@[simp] theorem State.port_await (s : State) (n : Nat) (q : PortId) : (s.await n).port q = s.port q := rfl
@[simp] theorem State.trunk_await (s : State) (n : Nat) (u : TrunkId) : (s.await n).trunk u = s.trunk u := by cases u <;> rfl
@[simp] theorem State.queue_await (s : State) (n : Nat) (u : TrunkId) : (s.await n).queue u = s.queue u := by cases u <;> rfl
@[simp] theorem State.image_await (s : State) (n : Nat) (k : Station) : (s.await n).image k = s.image k := rfl
@[simp] theorem State.limit_await (s : State) (n : Nat) (k : Station) : (s.await n).limit k = s.limit k := rfl
@[simp] theorem State.map_await (s : State) (n : Nat) (k : Station) : (s.await n).map k = s.map k := rfl
@[simp] theorem State.offer_await (s : State) (n : Nat) (q : PortId) : (s.await n).offer q = s.offer q := rfl
@[simp] theorem State.schedule_await (s : State) (n : Nat) (u : TrunkId) : (s.await n).schedule u = s.schedule u := by cases u <;> rfl
@[simp] theorem State.refused_await (s : State) (n : Nat) (u : TrunkId) : (s.await n).refused u = s.refused u := by cases u <;> rfl
@[simp] theorem State.params_await (s : State) (n : Nat) : (s.await n).params = s.params := rfl

end Sys2Proof.Machine
end

