-- ==== Sys2Proof/Laws/Requests.lean ====
section
/-! SUPPORT. What taking a request on a FREE port leaves: the frame is gone from the receiver, and the response is what the gate or
the carrying out gives. One lemma for each way a request is open (R149). -/

namespace Sys2Proof.Machine

/-- Raising a flag on every port is `State.flagged`. -/
theorem State.raiseAll_eq_flagged (s : State) (f : FlagSet) : s.raiseAll f = s.flagged f := by
  have h : (s.raiseAll f).ports = (s.flagged f).ports := by
    rw [State.raiseAll_eq]
    apply ports_ext
    intro p
    refine (State.port_eachPort s _ p).trans ?_
    simp [State.flagged, State.port, Vector.get_eq_getElem]
  change ({ s with ports := (s.raiseAll f).ports } : State) = { s with ports := (s.flagged f).ports }
  rw [h]

@[simp] theorem State.port_flagged (s : State) (f : FlagSet) (p : PortId) :
    (s.flagged f).port p = { s.port p with flags := (s.port p).flags ||| f } := by
  rw [← State.raiseAll_eq_flagged]; simp

@[simp] theorem State.port_received (s : State) (p q : PortId) :
    (s.received p).port q =
      if q = p then { s.port p with receiving := (s.port p).receiving.tail } else s.port q := by
  simp [State.received]

/-! ## What `received` and `answers` leave alone -/

@[simp] theorem State.received_powered (s : State) (p : PortId) : (s.received p).powered = s.powered := rfl
@[simp] theorem State.received_clock (s : State) (p : PortId) : (s.received p).clock = s.clock := rfl
@[simp] theorem State.received_ties (s : State) (p : PortId) : (s.received p).ties = s.ties := rfl
@[simp] theorem State.received_work (s : State) (p : PortId) : (s.received p).work = s.work := rfl
@[simp] theorem State.received_copy (s : State) (p : PortId) : (s.received p).copy = s.copy := rfl
@[simp] theorem State.received_copyCheck (s : State) (p : PortId) : (s.received p).copyCheck = s.copyCheck := rfl
@[simp] theorem State.received_copyWhole (s : State) (p : PortId) : (s.received p).copyWhole = s.copyWhole := rfl
@[simp] theorem State.received_saving (s : State) (p : PortId) : (s.received p).saving = s.saving := rfl
@[simp] theorem State.received_configDefaulted (s : State) (p : PortId) : (s.received p).configDefaulted = s.configDefaulted := rfl
@[simp] theorem State.received_images (s : State) (p : PortId) : (s.received p).images = s.images := rfl
@[simp] theorem State.received_limits (s : State) (p : PortId) : (s.received p).limits = s.limits := rfl
@[simp] theorem State.received_trunkA (s : State) (p : PortId) : (s.received p).trunkA = s.trunkA := rfl
@[simp] theorem State.received_trunkB (s : State) (p : PortId) : (s.received p).trunkB = s.trunkB := rfl
@[simp] theorem State.received_candidates (s : State) (p : PortId) : (s.received p).candidates = s.candidates := rfl
@[simp] theorem State.received_overflow (s : State) (p : PortId) : (s.received p).overflow = s.overflow := rfl
@[simp] theorem State.received_refusedA (s : State) (p : PortId) : (s.received p).refusedA = s.refusedA := rfl
@[simp] theorem State.received_refusedB (s : State) (p : PortId) : (s.received p).refusedB = s.refusedB := rfl
@[simp] theorem State.received_offers (s : State) (p : PortId) : (s.received p).offers = s.offers := rfl
@[simp] theorem State.received_current (s : State) (p : PortId) : (s.received p).current = s.current := rfl
@[simp] theorem State.received_previous (s : State) (p : PortId) : (s.received p).previous = s.previous := rfl
@[simp] theorem State.received_sequence (s : State) (p : PortId) : (s.received p).sequence = s.sequence := rfl
@[simp] theorem State.received_setpoint (s : State) (p : PortId) : (s.received p).setpoint = s.setpoint := rfl
@[simp] theorem State.received_mode (s : State) (p : PortId) : (s.received p).mode = s.mode := rfl
@[simp] theorem State.received_clearMark (s : State) (p : PortId) : (s.received p).clearMark = s.clearMark := rfl
@[simp] theorem State.received_dispatchDue (s : State) (p : PortId) : (s.received p).dispatchDue = s.dispatchDue := rfl
@[simp] theorem State.received_limiterDue (s : State) (p : PortId) : (s.received p).limiterDue = s.limiterDue := rfl
@[simp] theorem State.received_pending (s : State) (p : PortId) : (s.received p).pending = s.pending := rfl
@[simp] theorem State.image_received (s : State) (p : PortId) (l : Station) : (s.received p).image l = s.image l := rfl
@[simp] theorem State.limit_received (s : State) (p : PortId) (l : Station) : (s.received p).limit l = s.limit l := rfl
@[simp] theorem State.map_received (s : State) (p : PortId) (l : Station) : (s.received p).map l = s.map l := rfl
@[simp] theorem State.offer_received (s : State) (p : PortId) (q : PortId) : (s.received p).offer q = s.offer q := rfl
@[simp] theorem State.trunk_received (s : State) (p : PortId) (t : TrunkId) : (s.received p).trunk t = s.trunk t := by cases t <;> rfl
@[simp] theorem State.queue_received (s : State) (p : PortId) (t : TrunkId) : (s.received p).queue t = s.queue t := by cases t <;> rfl
@[simp] theorem State.schedule_received (s : State) (p : PortId) (t : TrunkId) : (s.received p).schedule t = s.schedule t := by cases t <;> rfl
@[simp] theorem State.refused_received (s : State) (p : PortId) (t : TrunkId) : (s.received p).refused t = s.refused t := by cases t <;> rfl
@[simp] theorem State.params_received (s : State) (p : PortId) : (s.received p).params = s.params := rfl
@[simp] theorem State.nowMs_received (s : State) (p : PortId) : (s.received p).nowMs = s.nowMs := rfl
@[simp] theorem State.answers_powered (s : State) (p : PortId) (r : Response) : (s.answers p r).powered = s.powered := rfl
@[simp] theorem State.answers_clock (s : State) (p : PortId) (r : Response) : (s.answers p r).clock = s.clock := rfl
@[simp] theorem State.answers_ties (s : State) (p : PortId) (r : Response) : (s.answers p r).ties = s.ties := rfl
@[simp] theorem State.answers_work (s : State) (p : PortId) (r : Response) : (s.answers p r).work = s.work := rfl
@[simp] theorem State.answers_copy (s : State) (p : PortId) (r : Response) : (s.answers p r).copy = s.copy := rfl
@[simp] theorem State.answers_copyCheck (s : State) (p : PortId) (r : Response) : (s.answers p r).copyCheck = s.copyCheck := rfl
@[simp] theorem State.answers_copyWhole (s : State) (p : PortId) (r : Response) : (s.answers p r).copyWhole = s.copyWhole := rfl
@[simp] theorem State.answers_saving (s : State) (p : PortId) (r : Response) : (s.answers p r).saving = s.saving := rfl
@[simp] theorem State.answers_configDefaulted (s : State) (p : PortId) (r : Response) : (s.answers p r).configDefaulted = s.configDefaulted := rfl
@[simp] theorem State.answers_images (s : State) (p : PortId) (r : Response) : (s.answers p r).images = s.images := rfl
@[simp] theorem State.answers_limits (s : State) (p : PortId) (r : Response) : (s.answers p r).limits = s.limits := rfl
@[simp] theorem State.answers_trunkA (s : State) (p : PortId) (r : Response) : (s.answers p r).trunkA = s.trunkA := rfl
@[simp] theorem State.answers_trunkB (s : State) (p : PortId) (r : Response) : (s.answers p r).trunkB = s.trunkB := rfl
@[simp] theorem State.answers_candidates (s : State) (p : PortId) (r : Response) : (s.answers p r).candidates = s.candidates := rfl
@[simp] theorem State.answers_overflow (s : State) (p : PortId) (r : Response) : (s.answers p r).overflow = s.overflow := rfl
@[simp] theorem State.answers_refusedA (s : State) (p : PortId) (r : Response) : (s.answers p r).refusedA = s.refusedA := rfl
@[simp] theorem State.answers_refusedB (s : State) (p : PortId) (r : Response) : (s.answers p r).refusedB = s.refusedB := rfl
@[simp] theorem State.answers_offers (s : State) (p : PortId) (r : Response) : (s.answers p r).offers = s.offers := rfl
@[simp] theorem State.answers_current (s : State) (p : PortId) (r : Response) : (s.answers p r).current = s.current := rfl
@[simp] theorem State.answers_previous (s : State) (p : PortId) (r : Response) : (s.answers p r).previous = s.previous := rfl
@[simp] theorem State.answers_sequence (s : State) (p : PortId) (r : Response) : (s.answers p r).sequence = s.sequence := rfl
@[simp] theorem State.answers_setpoint (s : State) (p : PortId) (r : Response) : (s.answers p r).setpoint = s.setpoint := rfl
@[simp] theorem State.answers_mode (s : State) (p : PortId) (r : Response) : (s.answers p r).mode = s.mode := rfl
@[simp] theorem State.answers_clearMark (s : State) (p : PortId) (r : Response) : (s.answers p r).clearMark = s.clearMark := rfl
@[simp] theorem State.answers_dispatchDue (s : State) (p : PortId) (r : Response) : (s.answers p r).dispatchDue = s.dispatchDue := rfl
@[simp] theorem State.answers_limiterDue (s : State) (p : PortId) (r : Response) : (s.answers p r).limiterDue = s.limiterDue := rfl
@[simp] theorem State.answers_pending (s : State) (p : PortId) (r : Response) : (s.answers p r).pending = s.pending := rfl
@[simp] theorem State.image_answers (s : State) (p : PortId) (r : Response) (l : Station) : (s.answers p r).image l = s.image l := rfl
@[simp] theorem State.limit_answers (s : State) (p : PortId) (r : Response) (l : Station) : (s.answers p r).limit l = s.limit l := rfl
@[simp] theorem State.map_answers (s : State) (p : PortId) (r : Response) (l : Station) : (s.answers p r).map l = s.map l := rfl
@[simp] theorem State.offer_answers (s : State) (p : PortId) (r : Response) (q : PortId) : (s.answers p r).offer q = s.offer q := rfl
@[simp] theorem State.trunk_answers (s : State) (p : PortId) (r : Response) (t : TrunkId) : (s.answers p r).trunk t = s.trunk t := by cases t <;> rfl
@[simp] theorem State.queue_answers (s : State) (p : PortId) (r : Response) (t : TrunkId) : (s.answers p r).queue t = s.queue t := by cases t <;> rfl
@[simp] theorem State.schedule_answers (s : State) (p : PortId) (r : Response) (t : TrunkId) : (s.answers p r).schedule t = s.schedule t := by cases t <;> rfl
@[simp] theorem State.refused_answers (s : State) (p : PortId) (r : Response) (t : TrunkId) : (s.answers p r).refused t = s.refused t := by cases t <;> rfl
@[simp] theorem State.params_answers (s : State) (p : PortId) (r : Response) : (s.answers p r).params = s.params := rfl
@[simp] theorem State.nowMs_answers (s : State) (p : PortId) (r : Response) : (s.answers p r).nowMs = s.nowMs := rfl

/-! ## Taking a request -/

/-- What the taking of a request on a FREE port gives, by the gate. -/
theorem State.take_free (s : State) (p : PortId) (tag code : Nat) (gate : State → PortId → Option ResponseCode)
    (f : State → Carried) (h : s.Free p) :
    s.take p tag code gate false f =
      match gate (s.received p) p with
      | some c => (s.received p).answers p (codeResponse tag code c)
      | none =>
        (f (s.received p)).1.answers p
          { tag := tag, request := code, code := (f (s.received p)).2.1, payload := (f (s.received p)).2.2 } := by
  have h2 : ((s.frameJudged p).port p).sending = none := by simp [h.2]
  unfold State.take
  simp only [h.1, if_true, h2, Option.isSome_none]
  rfl

/-- The gate reads nothing that taking the frame from the receiver changes. -/
@[simp] theorem State.gate_received (s : State) (p : PortId) (a : Access) : (s.received p).gate p a = s.gate p a := by
  simp [State.gate]; rfl

/-- A request open to both profiles in OPENING, LIVE and LAPSED is carried out on a port that is so. -/
theorem State.request_open (s : State) (p : PortId) (tag code : Nat) (f : State → Carried) (h : s.Opened p) :
    s.request p tag code .open f =
      (f (s.received p)).1.answers p
        { tag := tag, request := code, code := (f (s.received p)).2.1, payload := (f (s.received p)).2.2 } := by
  have g : s.gate p .open = none := by
    obtain ⟨_, h⟩ := h
    rcases h with h | h | h <;> simp [State.gate, Access.open, h]
  rw [State.request, State.take_free _ _ _ _ _ _ h.1]
  simp [g]

/-- FALLBACK_CLEAR's way: both profiles, LIVE. -/
theorem State.request_openLive (s : State) (p : PortId) (tag code : Nat) (f : State → Carried) (h : s.Free p)
    (hl : (s.port p).state = .live) :
    s.request p tag code .openLive f =
      (f (s.received p)).1.answers p
        { tag := tag, request := code, code := (f (s.received p)).2.1, payload := (f (s.received p)).2.2 } := by
  have g : s.gate p .openLive = none := by simp [State.gate, Access.openLive, hl]
  rw [State.request, State.take_free _ _ _ _ _ _ h]
  simp [g]

/-- A PLANT request is carried out on a LIVE PLANT port. -/
theorem State.request_plant (s : State) (p : PortId) (tag code : Nat) (f : State → Carried) (h : s.Plants p) :
    s.request p tag code .plant f =
      (f (s.received p)).1.answers p
        { tag := tag, request := code, code := (f (s.received p)).2.1, payload := (f (s.received p)).2.2 } := by
  have g : s.gate p .plant = none := by simp [State.gate, Access.plant, h.2.1, h.2.2]
  rw [State.request, State.take_free _ _ _ _ _ _ h.1]
  simp [g]

/-- An OPERATOR request is carried out on a LIVE OPERATOR port. -/
theorem State.request_operator (s : State) (p : PortId) (tag code : Nat) (f : State → Carried) (h : s.Operates p) :
    s.request p tag code .operator f =
      (f (s.received p)).1.answers p
        { tag := tag, request := code, code := (f (s.received p)).2.1, payload := (f (s.received p)).2.2 } := by
  have g : s.gate p .operator = none := by simp [State.gate, Access.operator, h.2.1, h.2.2]
  rw [State.request, State.take_free _ _ _ _ _ _ h.1]
  simp [g]

/-- One of the four writes is carried out on a LIVE OPERATOR port outside FALLBACK and a SAVE. -/
theorem State.request_fourWrites (s : State) (p : PortId) (tag code : Nat) (f : State → Carried) (h : s.Configures p) :
    s.request p tag code .fourWrites f =
      (f (s.received p)).1.answers p
        { tag := tag, request := code, code := (f (s.received p)).2.1, payload := (f (s.received p)).2.2 } := by
  have g : s.gate p .fourWrites = none := by
    simp [State.gate, Access.fourWrites, h.1.2.1, h.1.2.2, h.2.1, h.2.2]
  rw [State.request, State.take_free _ _ _ _ _ _ h.1.1]
  simp [g]

/-- RESTART is carried out on a LIVE OPERATOR port, and its OK is marked as the response that the network reset follows. -/
theorem State.take_restart (s : State) (p : PortId) (tag : Nat) (h : s.Operates p) :
    s.take p tag 0x37 (fun s p => s.gate p .operator) true (fun s => answerOk s []) =
      (s.received p).setPort p { (s.received p).port p with
        sending := some { response := okResponse tag 0x37 [], endAt := s.clock + 80, restarts := true } } := by
  have g : s.gate p .operator = none := by simp [State.gate, Access.operator, h.2.1, h.2.2]
  have g2 : (s.received p).gate p .operator = none := by simp [g]
  have h2 : ((s.frameJudged p).port p).sending = none := by simp [h.1.2]
  unfold State.take
  simp only [h.1.1, if_true, h2, Option.isSome_none]
  change (match (s.received p).gate p .operator with
    | some c => _
    | none => _) = _
  rw [g2]
  rfl

end Sys2Proof.Machine
end

