-- ==== Sys2Proof/Laws/Work.lean ====
section
/-! SUPPORT. What the shared operations over queue entries, outcomes and overrides may touch: each leaves `WorkFrame`, so all that
it changes is queues, outcome lists with their marks and flags, limiter entries and override fields. -/

namespace Sys2Proof.Machine

theorem WorkFrame.refl (s : State) : WorkFrame s s := ⟨rfl, fun _ => rfl, fun _ => rfl⟩

theorem WorkFrame.trans {s t u : State} (h : WorkFrame s t) (k : WorkFrame t u) : WorkFrame s u := by
  obtain ⟨h1, h2, h3⟩ := h
  obtain ⟨k1, k2, k3⟩ := k
  refine ⟨?_, fun q => ?_, fun l => ?_⟩
  · rw [k1, h1]
  · rw [k2, h2]
  · rw [k3, h3]

theorem WorkFrame.setQueue (s : State) (t : TrunkId) (q : List CommandEntry) : WorkFrame s (s.setQueue t q) :=
  ⟨by cases t <;> rfl, fun p => by simp, fun l => by simp⟩

theorem WorkFrame.setLimit (s : State) (l : Station) (x : LimitEntry) : WorkFrame s (s.setLimit l x) :=
  ⟨rfl, fun p => by simp, fun k => by simp⟩

theorem WorkFrame.setOverride (s : State) (l : Station) (o : Option Override) :
    WorkFrame s (s.setImage l { s.image l with override := o }) :=
  ⟨rfl, fun p => by simp, fun k => by by_cases h : k = l <;> simp [h]⟩

theorem WorkFrame.setPort (s : State) (p : PortId) (outcomes : List OutcomeEntry) (overrun : Bool) (flags : FlagSet) :
    WorkFrame s (s.setPort p { s.port p with outcomes := outcomes, overrun := overrun, flags := flags }) :=
  ⟨rfl, fun q => by by_cases h : q = p <;> simp [h], fun k => by simp⟩

theorem WorkFrame.raise (s : State) (p : PortId) (f : FlagSet) : WorkFrame s (s.raise p f) :=
  WorkFrame.setPort s p _ _ _

theorem WorkFrame.raiseAll (s : State) (f : FlagSet) : WorkFrame s (s.raiseAll f) :=
  ⟨rfl, fun q => by simp, fun k => by simp⟩

theorem WorkFrame.addOutcome (s : State) (p : PortId) (l : Station) (item : Item) (value : Option Nat) (o : CommandEnd) :
    WorkFrame s (s.addOutcome p l item value o) := WorkFrame.setPort s p _ _ _

theorem WorkFrame.flagDrained (s : State) (p : PortId) : WorkFrame s (s.flagDrained p) := by
  unfold State.flagDrained
  split
  · exact .raise s p _
  · exact .refl s

theorem WorkFrame.judgeDelivery (s : State) (p : PortId) (l : Station) (item : Item) (value : Option Nat) (o : CommandEnd) :
    WorkFrame s (s.judgeDelivery p l item value o) := by
  unfold State.judgeDelivery
  split
  · split
    · exact .setOverride s l _
    · exact .refl s
  · exact .refl s

theorem WorkFrame.limiterOutcome (s : State) (l : Station) (value : Option Nat) (o : CommandEnd) :
    WorkFrame s (s.limiterOutcome l value o) := by
  unfold State.limiterOutcome
  split
  · split
    · exact .setLimit s l _
    · exact .refl s
  all_goals exact .refl s

theorem WorkFrame.deliver (s : State) (e : CommandEntry) (o : CommandEnd) : WorkFrame s (s.deliver e o) := by
  unfold State.deliver
  split
  · exact .refl s
  · exact .limiterOutcome s _ _ _
  · split
    · exact .flagDrained s _
    · exact ((WorkFrame.addOutcome s _ _ _ _ _).trans (.judgeDelivery _ _ _ _ _ _)).trans (.flagDrained _ _)

theorem WorkFrame.displaced (s : State) (old : CommandEntry) (originator : Originator) :
    WorkFrame s (s.displaced old originator) := by
  unfold State.displaced
  split
  · exact .refl s
  · exact .deliver s _ _

/-- A queue that takes an entry changes nothing but work. -/
theorem WorkFrame.offerCommand {s t : State} {tr : TrunkId} {l : Station} {item : Item} {value : Option Nat}
    {originator : Originator} (h : s.offerCommand tr l item value originator = some t) : WorkFrame s t := by
  unfold State.offerCommand at h
  split at h
  · cases h
    exact (WorkFrame.setQueue s tr _).trans (.displaced _ _ _)
  · split at h
    · cases h
      exact .setQueue s tr _
    · cases h

theorem WorkFrame.offerIfRoom (s : State) (t : TrunkId) (l : Station) (item : Item) (value : Option Nat)
    (originator : Originator) : WorkFrame s (s.offerIfRoom t l item value originator) := by
  unfold State.offerIfRoom
  cases h : s.offerCommand t l item value originator with
  | none => exact .refl s
  | some u => exact .offerCommand h

theorem WorkFrame.dropEntry (s : State) (t : TrunkId) (e : CommandEntry) : WorkFrame s (s.dropEntry t e) :=
  (WorkFrame.setQueue s t _).trans (.deliver _ _ _)

/-- What every step of a fold leaves, the fold leaves. -/
theorem WorkFrame.foldl {α : Type} (f : State → α → State) (h : ∀ s x, WorkFrame s (f s x)) (xs : List α) (s : State) :
    WorkFrame s (xs.foldl f s) := by
  induction xs generalizing s with
  | nil => exact .refl s
  | cons x xs ih => exact (h s x).trans (ih (f s x))

theorem WorkFrame.dropWaiting (s : State) (t : TrunkId) (l : Station) : WorkFrame s (s.dropWaiting t l) :=
  .foldl _ (fun s e => .dropEntry s t e) _ _

theorem WorkFrame.setInFlight (s : State) (t : TrunkId) (e : CommandEntry) : WorkFrame s (s.setInFlight t e) :=
  .setQueue s t _

theorem WorkFrame.endInFlight (s : State) (t : TrunkId) (e : CommandEntry) (o : CommandEnd) :
    WorkFrame s (s.endInFlight t e o) := (WorkFrame.setQueue s t _).trans (.deliver _ _ _)

theorem WorkFrame.waitAgain (s : State) (t : TrunkId) (e : CommandEntry) : WorkFrame s (s.waitAgain t e) := by
  unfold State.waitAgain
  split
  · exact (WorkFrame.setQueue s t _).trans (.displaced _ _ _)
  · exact .setInFlight s t _

theorem WorkFrame.abandonCommand (s : State) (t : TrunkId) : WorkFrame s (s.abandonCommand t) := by
  unfold State.abandonCommand
  split
  · exact .refl s
  · split
    · exact .endInFlight s t _ _
    · exact .waitAgain s t _

theorem WorkFrame.reportRelease (s : State) (l : Station) (ov : Override) : WorkFrame s (s.reportRelease l ov) :=
  (WorkFrame.addOutcome s _ _ _ _ _).trans (.flagDrained _ _)

theorem WorkFrame.releaseOverride (s : State) (l : Station) (ov : Override) : WorkFrame s (s.releaseOverride l ov) := by
  have h : ∀ u : State, WorkFrame s u →
      WorkFrame s ((u.modifyImage l fun x => { x with override := none }).offerIfRoom (s.map l).trunk l ov.item none .module) :=
    fun u k => (k.trans (.setOverride u l none)).trans (.offerIfRoom _ _ _ _ _ _)
  unfold State.releaseOverride
  apply h
  split
  · exact .dropEntry s _ _
  · exact .reportRelease s l ov

theorem WorkFrame.releaseIfOwned (p : PortId) (s : State) (l : Station) : WorkFrame s (s.releaseIfOwned p l) := by
  unfold State.releaseIfOwned
  split
  · split
    · exact .releaseOverride s l _
    · exact .refl s
  · exact .refl s

theorem WorkFrame.releaseOwned (s : State) (p : PortId) : WorkFrame s (s.releaseOwned p) :=
  .foldl _ (fun s l => .releaseIfOwned p s l) _ _

theorem WorkFrame.releaseByBinding (s : State) (t : TrunkId) (l : Station) : WorkFrame s (s.releaseByBinding t l) := by
  unfold State.releaseByBinding
  split
  · exact .refl s
  · rename_i ov _
    have h : WorkFrame s (s.modifyImage l fun x => { x with override := none }) := .setOverride s l none
    dsimp only
    split
    · exact h
    · exact (h.trans (.setQueue _ t _)).trans (.reportRelease _ l ov)

theorem WorkFrame.carryOut (s : State) (l : Station) (d : LimitDecision) : WorkFrame s (s.carryOut l d) := by
  unfold State.carryOut
  split
  · exact .setLimit s l _
  · split
    · rename_i h
      exact (WorkFrame.offerCommand h).trans (.setLimit _ l _)
    · exact .setLimit s l _

theorem WorkFrame.evaluateEntry (s : State) (l : Station) : WorkFrame s (s.evaluateEntry l) := by
  unfold State.evaluateEntry
  split
  · split
    · exact .carryOut s l _
    · exact .refl s
  · exact .refl s

theorem WorkFrame.evaluate (s : State) : WorkFrame s s.evaluate := .foldl _ .evaluateEntry _ _

theorem WorkFrame.releaseCap (s : State) (l : Station) : WorkFrame s (s.releaseCap l) := by
  unfold State.releaseCap
  split
  · exact .offerIfRoom s _ _ _ _ _
  · exact .offerIfRoom s _ _ _ _ _
  · exact .refl s
  · exact .refl s

theorem WorkFrame.fallbackRelease (s : State) : WorkFrame s s.fallbackRelease := by
  have h : ∀ u : State, WorkFrame u { u with limits := Vector.replicate 120 LimitEntry.cleared } :=
    fun u => ⟨rfl, fun _ => rfl, fun _ => rfl⟩
  exact (WorkFrame.foldl _ .releaseCap _ s).trans (h _)

theorem WorkFrame.dropLimiterCap (s : State) (t : TrunkId) (l : Station) : WorkFrame s (s.dropLimiterCap t l) := by
  unfold State.dropLimiterCap
  split
  · exact .dropEntry s t _
  · exact .refl s

theorem WorkFrame.placeOverride (s : State) (l : Station) (p : PortId) (item : Item) (value : Option Nat) :
    WorkFrame s (s.placeOverride l p item value) :=
  (((WorkFrame.dropLimiterCap s _ l).trans (.setLimit _ l _)).trans (.setOverride _ l _)).trans (.offerIfRoom _ _ _ _ _ _)

theorem WorkFrame.replaceOverride (s : State) (l : Station) (p : PortId) (old item : Item) (value : Option Nat) :
    WorkFrame s (s.replaceOverride l p old item value) := by
  unfold State.replaceOverride
  dsimp only
  split
  · exact (WorkFrame.offerIfRoom s _ _ _ _ _).trans (.setOverride _ l _)
  · exact ((WorkFrame.offerIfRoom s _ _ _ _ _).trans (.offerIfRoom _ _ _ _ _ _)).trans (.setOverride _ l _)

/-! ## What a WorkFrame leaves, read by read -/

theorem WorkFrame.clock {s t : State} (h : WorkFrame s t) : t.clock = s.clock := by rw [h.1]
theorem WorkFrame.powered {s t : State} (h : WorkFrame s t) : t.powered = s.powered := by rw [h.1]
theorem WorkFrame.params {s t : State} (h : WorkFrame s t) : t.params = s.params := by rw [h.1]; rfl
theorem WorkFrame.map {s t : State} (h : WorkFrame s t) (l : Station) : t.map l = s.map l := by rw [h.1]; rfl
theorem WorkFrame.mode {s t : State} (h : WorkFrame s t) : t.mode = s.mode := by rw [h.1]
theorem WorkFrame.offer {s t : State} (h : WorkFrame s t) (p : PortId) : t.offer p = s.offer p := by rw [h.1]; rfl
theorem WorkFrame.schedule {s t : State} (h : WorkFrame s t) (r : TrunkId) : t.schedule r = s.schedule r := by
  rw [h.1]; cases r <;> rfl
theorem WorkFrame.trunk {s t : State} (h : WorkFrame s t) (r : TrunkId) :
    t.trunk r = { s.trunk r with queue := t.queue r } := by
  obtain ⟨h1, -⟩ := h
  rw [h1]; cases r <;> rfl
theorem WorkFrame.portState {s t : State} (h : WorkFrame s t) (p : PortId) : (t.port p).state = (s.port p).state := by rw [h.2.1]
theorem WorkFrame.stationState {s t : State} (h : WorkFrame s t) (l : Station) : (t.image l).state = (s.image l).state := by
  rw [h.2.2]

end Sys2Proof.Machine
end

