-- ==== Sys2Proof/Laws/Queues.lean ====
section
/-! SUPPORT. The shared operations over the queues: what the delivery of an outcome leaves alone, how a queue takes an entry, and
what the removal of a station's waiting entries leaves. -/

namespace Sys2Proof.Machine

/-! ## What the delivery of an outcome leaves alone -/

@[simp] theorem State.trunk_flagDrained (s : State) (p : PortId) (t : TrunkId) : (s.flagDrained p).trunk t = s.trunk t := by
  unfold State.flagDrained; split <;> simp

@[simp] theorem State.trunk_judgeDelivery (s : State) (p : PortId) (l : Station) (item : Item) (v : Option Nat)
    (o : CommandEnd) (t : TrunkId) : (s.judgeDelivery p l item v o).trunk t = s.trunk t := by
  unfold State.judgeDelivery; split <;> [split; skip] <;> simp

@[simp] theorem State.trunk_limiterOutcome (s : State) (l : Station) (v : Option Nat) (o : CommandEnd) (t : TrunkId) :
    (s.limiterOutcome l v o).trunk t = s.trunk t := by
  unfold State.limiterOutcome; split <;> [split; rfl; rfl; rfl] <;> simp

@[simp] theorem State.trunk_deliver (s : State) (e : CommandEntry) (o : CommandEnd) (t : TrunkId) :
    (s.deliver e o).trunk t = s.trunk t := by
  unfold State.deliver; split <;> [skip; skip; split] <;> simp [State.addOutcome]

@[simp] theorem State.queue_deliver (s : State) (e : CommandEntry) (o : CommandEnd) (t : TrunkId) :
    (s.deliver e o).queue t = s.queue t := by
  simp [State.queue]

@[simp] theorem State.image_flagDrained (s : State) (p : PortId) (l : Station) : (s.flagDrained p).image l = s.image l := by
  unfold State.flagDrained; split <;> simp

theorem State.image_judgeDelivery (s : State) (p : PortId) (l k : Station) (item : Item) (v : Option Nat)
    (o : CommandEnd) (h : k ≠ l) : (s.judgeDelivery p l item v o).image k = s.image k := by
  unfold State.judgeDelivery; split <;> [split; skip] <;> simp [h]

@[simp] theorem State.image_limiterOutcome (s : State) (l k : Station) (v : Option Nat) (o : CommandEnd) :
    (s.limiterOutcome l v o).image k = s.image k := by
  unfold State.limiterOutcome; split <;> [split; rfl; rfl; rfl] <;> simp

/-- An outcome changes the override of its own station alone. -/
theorem State.image_deliver (s : State) (e : CommandEntry) (o : CommandEnd) (k : Station) (h : k ≠ e.index) :
    (s.deliver e o).image k = s.image k := by
  unfold State.deliver
  split <;> [skip; skip; split] <;> simp [State.addOutcome, State.image_judgeDelivery _ _ _ _ _ _ _ h]

/-- An outcome changes no image where the station holds no override. -/
theorem State.image_deliver_none (s : State) (e : CommandEntry) (o : CommandEnd) (h : (s.image e.index).override = none)
    (k : Station) : (s.deliver e o).image k = s.image k := by
  have hj : ∀ (u : State) (p : PortId), (∀ k, u.image k = s.image k) →
      (u.judgeDelivery p e.index e.item e.value o).image k = s.image k := by
    intro u p hu
    have : (u.image e.index).override = none := by rw [hu, h]
    simp only [State.judgeDelivery, this]
    exact hu k
  unfold State.deliver
  split
  · rfl
  · simp
  · split
    · simp
    · simp only [State.image_flagDrained]
      exact hj _ _ fun k => by simp [State.addOutcome]

/-- What an outcome reports to: no port but the entry's originator. -/
theorem State.port_deliver (s : State) (e : CommandEntry) (o : CommandEnd) (q : PortId) (h : e.originator ≠ .port q) :
    (s.deliver e o).port q = s.port q := by
  have hj : ∀ (u : State) (p : PortId), (u.judgeDelivery p e.index e.item e.value o).port q = u.port q := by
    intro u p; unfold State.judgeDelivery; split <;> [split; skip] <;> simp
  have hf : ∀ (u : State) (p : PortId), q ≠ p → (u.flagDrained p).port q = u.port q := by
    intro u p hp; unfold State.flagDrained; split <;> simp [hp]
  unfold State.deliver
  split
  · rfl
  · unfold State.limiterOutcome; split <;> [split; rfl; rfl; rfl] <;> simp
  · rename_i p hp
    have hq : q ≠ p := by rintro rfl; exact h hp
    split
    · exact hf _ _ hq
    · rw [hf _ _ hq, hj]; simp [State.addOutcome, hq]

@[simp] theorem State.queue_displaced (s : State) (old : CommandEntry) (originator : Originator) (t : TrunkId) :
    (s.displaced old originator).queue t = s.queue t := by
  unfold State.displaced; split <;> simp

/-! ## The waiting entry of a key is one -/

/-- In a queue without two waiting entries of a key, an entry found at a place is the one that a search finds, at that place. -/
theorem find_of_unique {q : List CommandEntry} (hq : q.Pairwise notSameWaiting) {l : Station} {item : Item} {i : Nat}
    {old : CommandEntry} (hi : q[i]? = some old) (hw : waitingKey l item old = true) :
    q.find? (waitingKey l item) = some old ∧ q.findIdx (waitingKey l item) = i := by
  induction q generalizing i with
  | nil => simp at hi
  | cons d q ih =>
    rw [List.pairwise_cons] at hq
    cases i with
    | zero =>
      simp only [List.getElem?_cons_zero, Option.some.injEq] at hi
      subst hi
      simp [List.findIdx_cons, hw]
    | succ i =>
      simp only [List.getElem?_cons_succ] at hi
      have hd : waitingKey l item d = false := by
        by_contra hd
        have hd : waitingKey l item d = true := by simpa using hd
        refine hq.1 old (List.mem_of_getElem? hi) ?_
        simp only [waitingKey, Bool.and_eq_true, beq_iff_eq] at hd hw
        exact ⟨hd.1.1, hw.1.1, hd.1.2.trans hw.1.2.symm, hd.2.trans hw.2.symm⟩
      have := ih hq.2 hi
      simp [List.findIdx_cons, hd, this]

theorem find_none_of {q : List CommandEntry} {l : Station} {item : Item} (h : ∀ d ∈ q, waitingKey l item d = false) :
    q.find? (waitingKey l item) = none := by
  simpa [List.find?_eq_none] using h

/-! ## How a queue takes an entry (R120, R121) -/

/-- The three things that offering an entry can do: it takes the place of the waiting entry of its key, or the end of the queue,
or is not taken. -/
theorem State.offerCommand_cases (s : State) (t : TrunkId) (l : Station) (item : Item) (value : Option Nat) (o : Originator) :
    (∃ i old, (s.queue t)[i]? = some old ∧ waitingKey l item old = true
        ∧ s.offerCommand t l item value o =
          some ((s.setQueue t ((s.queue t).set i (newEntry l item value o))).displaced old o))
    ∨ ((∀ d ∈ s.queue t, waitingKey l item d = false)
        ∧ ((s.queue t).length < 16 ∧ s.offerCommand t l item value o = some (s.setQueue t (s.queue t ++ [newEntry l item value o]))
          ∨ 16 ≤ (s.queue t).length ∧ s.offerCommand t l item value o = none)) := by
  cases h : (s.queue t).find? (waitingKey l item) with
  | some old =>
    left
    refine ⟨(s.queue t).findIdx (waitingKey l item), old, ?_, List.find?_some h, ?_⟩
    · rw [List.find?_eq_getElem?_findIdx] at h
      exact h
    · simp only [State.offerCommand, h, replaceFirst]
  | none =>
    right
    rw [List.find?_eq_none] at h
    refine ⟨fun d hd => by simpa using h d hd, ?_⟩
    have h' := find_none_of (q := s.queue t) (l := l) (item := item) fun d hd => by simpa using h d hd
    by_cases hl : (s.queue t).length < 16
    · left; simp only [State.offerCommand, h', hl, if_true, and_self]
    · right; simp only [State.offerCommand, h', hl, if_false, and_true]; omega

/-- The queue after an entry is offered to it has taken the entry, unless it was full. -/
theorem State.offerIfRoom_takes (s : State) (t : TrunkId) (l : Station) (item : Item) (value : Option Nat) (o : Originator) :
    TakesEntry (s.queue t) (newEntry l item value o) ((s.offerIfRoom t l item value o).queue t)
    ∨ ((∀ d ∈ s.queue t, waitingKey l item d = false) ∧ 16 ≤ (s.queue t).length
        ∧ s.offerIfRoom t l item value o = s) := by
  rcases s.offerCommand_cases t l item value o with ⟨i, old, hi, hw, h⟩ | ⟨hn, ⟨_, h⟩ | ⟨hl, h⟩⟩
  · left; left
    exact ⟨i, old, hi, hw, by simp [State.offerIfRoom, h]⟩
  · left; right
    exact ⟨hn, by simp [State.offerIfRoom, h]⟩
  · right
    exact ⟨hn, hl, by simp [State.offerIfRoom, h]⟩

/-- Offering an entry to one trunk's queue leaves the other. -/
theorem State.queue_offerIfRoom (s : State) (t u : TrunkId) (l : Station) (item : Item) (value : Option Nat) (o : Originator)
    (h : u ≠ t) : (s.offerIfRoom t l item value o).queue u = s.queue u := by
  rcases s.offerCommand_cases t l item value o with ⟨i, old, hi, hw, k⟩ | ⟨hn, ⟨_, k⟩ | ⟨hl, k⟩⟩ <;>
    simp [State.offerIfRoom, k, h]

/-- Offering an entry changes the override of its own station alone. -/
theorem State.image_offerIfRoom (s : State) (t : TrunkId) (l k : Station) (item : Item) (value : Option Nat) (o : Originator)
    (h : k ≠ l) : (s.offerIfRoom t l item value o).image k = s.image k := by
  rcases s.offerCommand_cases t l item value o with ⟨i, old, hi, hw, e⟩ | ⟨hn, ⟨_, e⟩ | ⟨hl, e⟩⟩
  · have : old.index = l := by
      simp only [waitingKey, Bool.and_eq_true, beq_iff_eq] at hw
      exact hw.1.2
    simp only [State.offerIfRoom, e, Option.getD_some, State.displaced]
    split
    · simp
    · rw [State.image_deliver _ _ _ _ (by rw [this]; exact h)]; simp
  · simp [State.offerIfRoom, e]
  · simp [State.offerIfRoom, e]

/-- Offering an entry changes no image where the station holds no override. -/
theorem State.image_offerIfRoom_none (s : State) (t : TrunkId) (l k : Station) (item : Item) (value : Option Nat) (o : Originator)
    (h : (s.image l).override = none) : (s.offerIfRoom t l item value o).image k = s.image k := by
  rcases s.offerCommand_cases t l item value o with ⟨i, old, hi, hw, e⟩ | ⟨hn, ⟨_, e⟩ | ⟨hl, e⟩⟩
  · have : old.index = l := by
      simp only [waitingKey, Bool.and_eq_true, beq_iff_eq] at hw
      exact hw.1.2
    simp only [State.offerIfRoom, e, Option.getD_some, State.displaced]
    split
    · simp
    · rw [State.image_deliver_none _ _ _ (by rw [this]; simpa using h)]; simp
  · simp [State.offerIfRoom, e]
  · simp [State.offerIfRoom, e]

/-! ## The places an entry needs (R77, R121) -/

theorem roomNeeded_eq (q : List CommandEntry) (l : Station) (item : Item) : roomNeeded q l item = placesNeeded q l item := by
  simp [roomNeeded, placesNeeded, hasWaiting, List.any_eq_true]

/-- Where there is a place for it, the queue takes the entry. -/
theorem State.offerIfRoom_takes_of_room (s : State) (t : TrunkId) (l : Station) (item : Item) (value : Option Nat)
    (o : Originator) (h : (s.queue t).length + placesNeeded (s.queue t) l item ≤ 16) :
    TakesEntry (s.queue t) (newEntry l item value o) ((s.offerIfRoom t l item value o).queue t) := by
  rcases s.offerIfRoom_takes t l item value o with h1 | ⟨h1, h2, h3⟩
  · exact h1
  · exfalso
    unfold placesNeeded at h
    rw [if_neg] at h
    · omega
    · rintro ⟨e, he, hw⟩; simp [h1 e he] at hw

/-! ## The removal of a station's waiting entries (R129) -/

@[simp] theorem State.queue_dropEntry (s : State) (t u : TrunkId) (e : CommandEntry) :
    (s.dropEntry t e).queue u = if u = t then (s.queue t).erase e else s.queue u := by
  simp [State.dropEntry]

/-- Erasing one by one what a test picks leaves what it does not pick. -/
theorem erase_filter (f : CommandEntry → Bool) (q : List CommandEntry) :
    (q.filter f).foldl List.erase q = q.filter (!f ·) := by
  have key : ∀ (xs q : List CommandEntry) (d : CommandEntry), (∀ x ∈ xs, x ≠ d) →
      xs.foldl List.erase (d :: q) = d :: xs.foldl List.erase q := by
    intro xs
    induction xs with
    | nil => intro q d _; rfl
    | cons x xs ih =>
      intro q d h
      have hx : d ≠ x := fun e => h x (by simp) e.symm
      rw [List.foldl_cons, List.foldl_cons, List.erase_cons_tail (by simpa using hx)]
      exact ih _ _ fun y hy => h y (by simp [hy])
  induction q with
  | nil => rfl
  | cons d q ih =>
    by_cases hd : f d = true
    · simp [hd, ih]
    · have hd : f d = false := by simpa using hd
      simp only [List.filter_cons, hd, Bool.false_eq_true, if_false, Bool.not_false, if_true]
      rw [key, ih]
      rintro x hx rfl
      simp [hd] at hx

theorem State.queue_dropWaiting (s : State) (t u : TrunkId) (l : Station) :
    (s.dropWaiting t l).queue u = if u = t then withoutWaiting (s.queue t) l else s.queue u := by
  have key : ∀ (xs : List CommandEntry) (s : State), (xs.foldl (fun s e => s.dropEntry t e) s).queue u =
      if u = t then xs.foldl List.erase (s.queue t) else s.queue u := by
    intro xs
    induction xs with
    | nil => intro s; by_cases h : u = t <;> simp [h]
    | cons x xs ih =>
      intro s
      rw [List.foldl_cons, ih]
      by_cases h : u = t <;> simp [h]
  unfold State.dropWaiting
  rw [key]
  by_cases h : u = t
  · simp [h, erase_filter, withoutWaiting]
  · simp [h]

/-- The removal changes no override but that of the station. -/
theorem State.image_dropWaiting (s : State) (t : TrunkId) (l k : Station) (h : k ≠ l) :
    (s.dropWaiting t l).image k = s.image k := by
  have key : ∀ (xs : List CommandEntry) (s : State), (∀ e ∈ xs, e.index = l) →
      (xs.foldl (fun s e => s.dropEntry t e) s).image k = s.image k := by
    intro xs
    induction xs with
    | nil => intro s _; rfl
    | cons x xs ih =>
      intro s hx
      rw [List.foldl_cons, ih _ fun e he => hx e (by simp [he])]
      have : k ≠ x.index := by rw [hx x (by simp)]; exact h
      simp [State.dropEntry, State.image_deliver _ _ _ _ this]
  apply key
  intro e he
  simp only [List.mem_filter, Bool.and_eq_true, beq_iff_eq] at he
  exact he.2.2

end Sys2Proof.Machine
end

