-- ==== Sys2Proof/Laws/Dispatch.lean ====
section
/-! SUPPORT. The words of Safety.lean in terms of the machine's own tests: a LIVE PLANT port, the reference set, the judgements of
the limiter, the sweep of a schedule. -/

namespace Sys2Proof.Machine

theorem State.plantLive_iff (s : State) : s.plantLive = true ↔ s.HasLivePlant := by
  simp [State.plantLive, portIds, State.HasLivePlant]

/-- The reference set holds exactly what `refers` says. -/
theorem State.refers_iff (s : State) (l : Station) (m : Int) (v : Nat) : s.refers l m v ↔ s.margin l = some (m, v) := by
  unfold State.refers State.margin
  by_cases h : (s.image l).state = .live ∧ (s.map l).index = true
  · rw [if_pos h]
    cases hr : (s.image l).reading with
    | none => simp
    | some r =>
      cases hd : r.dp with
      | none => simp [hd]
      | some dp =>
        simp [h, hd]
        constructor
        · rintro ⟨rfl, rfl⟩; exact ⟨rfl, rfl⟩
        · rintro ⟨rfl, rfl⟩; exact ⟨rfl, rfl⟩
  · rw [if_neg h]
    simp only [reduceCtorEq, iff_false]
    rintro ⟨h1, h2, -⟩
    exact h ⟨h1, h2⟩

theorem Reading.dT_eq (r : Reading) : r.dT = r.tr - r.ts := by
  unfold Reading.dT; split <;> omega

theorem isLow_iff (x : Params) (m : MapPart) (r : Reading) : isLow x m r = true ↔ isLowNow x m r := by
  simp [isLow, isLowNow, MapPart.eligible, Reading.dT_eq, and_assoc]

theorem isRecovered_iff (x : Params) (r : Reading) : isRecovered x r = true ↔ isRecoveredNow x r := by
  simp [isRecovered, isRecoveredNow, Reading.dT_eq]

theorem capOf_eq (x : Params) (m : MapPart) (r : Reading) : capOf x m r = capNow x m r := by
  simp [capOf, capNow, Reading.dT_eq]

theorem State.inScope_iff (s : State) (l : Station) : s.inScope l = true ↔ s.ScopedNow l := by
  have h : ∀ o : Originator, (o != Originator.limiter) = false ↔ o = .limiter := by intro o; cases o <;> simp
  simp only [State.inScope, State.ScopedNow, Bool.and_eq_true, decide_eq_true_eq, Option.isNone_iff_eq_none, List.all_eq_true,
    Bool.not_eq_true', Bool.and_eq_false_iff, and_assoc, h]
  refine and_congr_right fun _ => and_congr_right fun _ => forall_congr' fun e => forall_congr' fun _ => ?_
  simp only [beq_eq_false_iff_ne, ne_eq]
  tauto

theorem nonzero_iff (sched : Schedule) (k : EntryIndex) : nonzero sched k = true ↔ inSweep sched k := by
  simp [nonzero, inSweep]

theorem State.scheduleEmpty_iff (s : State) (t : TrunkId) : s.scheduleEmpty t = true ↔ ∀ k, ¬inSweep (s.schedule t) k := by
  simp [State.scheduleEmpty, inSweep]

/-- The entry found from a number is the first in the sweep at or above it. -/
theorem firstFrom_eq_some {sched : Schedule} {n : Nat} {k : EntryIndex} :
    firstFrom sched n = some k ↔ n ≤ k.val ∧ inSweep sched k ∧ ∀ j : EntryIndex, n ≤ j.val → j < k → ¬inSweep sched j := by
  unfold firstFrom
  rw [List.find?_eq_some_iff_getElem]
  simp only [List.getElem_finRange, List.length_finRange]
  constructor
  · rintro ⟨h1, i, hi, rfl, h2⟩
    simp only [Bool.and_eq_true, decide_eq_true_eq, nonzero_iff] at h1
    refine ⟨h1.1, h1.2, fun j hj hk => ?_⟩
    have := h2 j.val (by simpa [Fin.lt_def] using hk)
    simp only [Bool.not_eq_true', Bool.and_eq_false_iff, decide_eq_false_iff_not] at this
    rcases this with h | h
    · exact absurd hj (by simpa using h)
    · intro hs
      have : nonzero sched j = true := (nonzero_iff _ _).2 hs
      simp_all
  · rintro ⟨h1, h2, h3⟩
    refine ⟨by simp [h1, (nonzero_iff sched k).2 h2], k.val, k.isLt, by simp, fun j hj => ?_⟩
    have hj96 : j < 96 := lt_trans hj k.isLt
    by_cases hn : n ≤ j
    · have h4 := h3 ⟨j, hj96⟩ hn (by simpa [Fin.lt_def] using hj)
      have : nonzero sched ⟨j, hj96⟩ = false := by
        cases h : nonzero sched ⟨j, hj96⟩
        · rfl
        · exact absurd ((nonzero_iff _ _).1 h) h4
      simp [this]
    · simp [hn]

theorem firstFrom_eq_none {sched : Schedule} {n : Nat} :
    firstFrom sched n = none ↔ ∀ j : EntryIndex, n ≤ j.val → ¬inSweep sched j := by
  unfold firstFrom
  rw [List.find?_eq_none]
  constructor
  · intro h j hj hs
    exact h j (List.mem_finRange j) (by simp [hj, (nonzero_iff sched j).2 hs])
  · intro h j _ hc
    simp only [Bool.and_eq_true, decide_eq_true_eq, nonzero_iff] at hc
    exact h j hc.1 hc.2

/-- The entry that a slot takes is the one of R107. -/
theorem nextEntry_eq_some {sched : Schedule} {pointer : Option EntryIndex} {k : EntryIndex} {wraps : Bool} :
    nextEntry sched pointer = some (k, wraps) ↔ TakesSlot sched pointer k wraps := by
  unfold nextEntry TakesSlot
  cases pointer with
  | none =>
    simp only [Option.map_eq_some_iff, firstFrom_eq_some, Prod.mk.injEq]
    constructor
    · rintro ⟨i, ⟨-, h1, h2⟩, rfl, rfl⟩
      exact ⟨h1, rfl, fun j hj => h2 j (Nat.zero_le _) hj⟩
    · rintro ⟨h1, rfl, h2⟩
      exact ⟨k, ⟨Nat.zero_le _, h1, fun j _ hj => h2 j hj⟩, rfl, rfl⟩
  | some i =>
    cases h : firstFrom sched (i.val + 1) with
    | some m =>
      obtain ⟨h1, h2, h3⟩ := firstFrom_eq_some.1 h
      simp only [h, Option.some.injEq, Prod.mk.injEq]
      constructor
      · rintro ⟨rfl, rfl⟩
        exact ⟨h2, .inl ⟨rfl, h1, fun j hj hk => h3 j hj hk⟩⟩
      · rintro ⟨hk, ⟨rfl, h4, h5⟩ | ⟨rfl, h4, -⟩⟩
        · refine ⟨?_, rfl⟩
          rcases lt_trichotomy m k with hlt | heq | hgt
          · exact absurd h2 (h5 m h1 hlt)
          · exact heq
          · exact absurd hk (h3 k h4 hgt)
        · exact absurd h2 (h4 m h1)
    | none =>
      have h0 := firstFrom_eq_none.1 h
      simp only [h, Option.map_eq_some_iff, firstFrom_eq_some, Prod.mk.injEq]
      constructor
      · rintro ⟨m, ⟨-, h1, h2⟩, rfl, rfl⟩
        exact ⟨h1, .inr ⟨rfl, fun j hj => h0 j hj, fun j hj => h2 j (Nat.zero_le _) hj⟩⟩
      · rintro ⟨hk, ⟨rfl, h4, -⟩ | ⟨rfl, -, h5⟩⟩
        · exact absurd hk (h0 k h4)
        · exact ⟨k, ⟨Nat.zero_le _, hk, fun j _ hj => h5 j hj⟩, rfl, rfl⟩

end Sys2Proof.Machine
end

