-- ==== Sys2Proof/Laws/Drops.lean ====
section
/-! SUPPORT. What the dropping of queue entries leaves in the ports, the override fields and the limiter entries, and what
follows for the removal of a station's waiting entries. -/

namespace Sys2Proof.Machine

/-! ## Outcomes added one after the other -/

theorem Port.raise_raise (x : Port) (f g : FlagSet) : (x.raise f).raise g = x.raise (f ||| g) := by
  simp [Port.raise, BitVec.or_assoc]

/-- Adding an outcome keeps what was raised before. -/
theorem Port.addOutcome_raise (x : Port) (f : FlagSet) (o : OutcomeEntry) :
    (x.raise f).addOutcome o = (x.addOutcome o).raise f := by
  have h : x.flags ||| f ||| FlagSet.cmd = x.flags ||| FlagSet.cmd ||| f := by ac_rfl
  by_cases k : x.notify = .each
  · simp [Port.addOutcome, Port.raise, k, h]
  · simp only [Port.addOutcome, Port.raise, k, if_false]; rfl

theorem Port.addOutcomes_raise (os : List OutcomeEntry) (x : Port) (f : FlagSet) :
    os.foldl Port.addOutcome (x.raise f) = (os.foldl Port.addOutcome x).raise f := by
  induction os generalizing x with
  | nil => rfl
  | cons o os ih => rw [List.foldl_cons, Port.addOutcome_raise, ih, List.foldl_cons]

@[simp] theorem Port.addOutcomes_notify (os : List OutcomeEntry) (x : Port) :
    (os.foldl Port.addOutcome x).notify = x.notify := by
  induction os generalizing x with
  | nil => rfl
  | cons o os ih => rw [List.foldl_cons, ih]; rfl

theorem droppedOutcomes_append (g h : List CommandEntry) (p : PortId) (n : Nat) :
    droppedOutcomes (g ++ h) p n = droppedOutcomes g p n ++ droppedOutcomes h p n := by
  simp [droppedOutcomes]

/-! ## DropsReach, port by port -/

/-- The port's entries have reached none, by a release's own report or by the entries gone (R159). -/
abbrev Drained (gone : List CommandEntry) (told : PortId → List OutcomeEntry) (s t : State) (p : PortId) : Prop :=
  (s.port p).notify = .drained ∧ (told p ≠ [] ∨ ∃ e ∈ gone, e.originator = .port p)
    ∧ ∀ r, ∀ e ∈ t.queue r, e.originator ≠ .port p

theorem dropsReach_iff {gone : List CommandEntry} {told : PortId → List OutcomeEntry} {extra : FlagSet} {s t : State} :
    DropsReach gone told extra s t ↔ ∀ p, ∃ f : FlagSet,
      t.port p = ((told p ++ droppedOutcomes gone p s.clock).foldl Port.addOutcome (s.port p)).raise f
        ∧ ((Drained gone told s t p ∧ f = .cmd ||| extra) ∨ (¬Drained gone told s t p ∧ f = extra)) := by
  refine forall_congr' fun p => ?_
  by_cases h : Drained gone told s t p
  · refine ⟨fun k => ⟨_, ?_, .inl ⟨h, rfl⟩⟩, fun ⟨f, k, hf⟩ => ⟨fun _ => ?_, fun n => absurd h n⟩⟩
    · rw [k.1 h, Port.raise, BitVec.or_assoc]
    · obtain ⟨_, rfl⟩ | ⟨n, _⟩ := hf
      · rw [k, Port.raise, BitVec.or_assoc]
      · exact absurd h n
  · refine ⟨fun k => ⟨_, k.2 h, .inr ⟨h, rfl⟩⟩, fun ⟨f, k, hf⟩ => ⟨fun y => absurd y h, fun _ => ?_⟩⟩
    obtain ⟨y, _⟩ | ⟨_, rfl⟩ := hf
    · exact absurd y h
    · exact k

theorem DropsReach.nil (s : State) : DropsReach [] (fun _ => []) 0 s s := by
  refine dropsReach_iff.2 fun p => ⟨0, by simp [droppedOutcomes, Port.raise], .inr ⟨?_, rfl⟩⟩
  rintro ⟨_, h | ⟨e, he, _⟩, _⟩
  · exact h rfl
  · cases he

/-- Droppings one after the other, the second of which takes from the queues the entries it names. -/
theorem DropsReach.trans {g h : List CommandEntry} {told : PortId → List OutcomeEntry} {a b : FlagSet} {s t u : State}
    (st : DropsReach g told a s t) (tu : DropsReach h (fun _ => []) b t u) (clock : t.clock = s.clock)
    (sub : ∀ r, ∀ e ∈ u.queue r, e ∈ t.queue r) (left : ∀ r, ∀ e ∈ t.queue r, e ∈ u.queue r ∨ e ∈ h) :
    DropsReach (g ++ h) told (a ||| b) s u := by
  refine dropsReach_iff.2 fun p => ?_
  obtain ⟨f, hf, fd⟩ := dropsReach_iff.1 st p
  obtain ⟨k, hk, kd⟩ := dropsReach_iff.1 tu p
  have notify : (t.port p).notify = (s.port p).notify := by rw [hf]; simp [Port.raise]
  refine ⟨f ||| k, ?_, ?_⟩
  · rw [hk, hf, clock, List.nil_append, Port.addOutcomes_raise, Port.raise_raise, ← List.foldl_append, List.append_assoc,
      ← droppedOutcomes_append]
  · have hd : Drained (g ++ h) told s u p ↔ Drained g told s t p ∨ Drained h (fun _ => []) t u p := by
      constructor
      · rintro ⟨h1, h2, h3⟩
        by_cases he : ∃ e ∈ h, e.originator = .port p
        · exact .inr ⟨notify.trans h1, .inr he, h3⟩
        · refine .inl ⟨h1, ?_, fun r e hr ho => ?_⟩
          · rcases h2 with h2 | ⟨e, h2, h4⟩
            · exact .inl h2
            · rcases List.mem_append.1 h2 with h5 | h5
              · exact .inr ⟨e, h5, h4⟩
              · exact absurd ⟨e, h5, h4⟩ he
          · rcases left r e hr with h5 | h5
            · exact h3 r e h5 ho
            · exact he ⟨e, h5, ho⟩
      · rintro (⟨h1, h2, h3⟩ | ⟨h1, h2, h3⟩)
        · refine ⟨h1, ?_, fun r e he => h3 r e (sub r e he)⟩
          rcases h2 with h2 | ⟨e, h2, h4⟩
          · exact .inl h2
          · exact .inr ⟨e, by simp [h2], h4⟩
        · refine ⟨notify.symm.trans h1, ?_, h3⟩
          rcases h2 with h2 | ⟨e, h2, h4⟩
          · exact absurd rfl h2
          · exact .inr ⟨e, by simp [h2], h4⟩
    rw [hd]
    have same : (FlagSet.cmd ||| a ||| (FlagSet.cmd ||| b)) = FlagSet.cmd ||| (a ||| b) := by
      rw [show FlagSet.cmd ||| a ||| (FlagSet.cmd ||| b) = (FlagSet.cmd ||| FlagSet.cmd) ||| (a ||| b) by ac_rfl, BitVec.or_self]
    rcases fd with ⟨x, rfl⟩ | ⟨x, rfl⟩ <;> rcases kd with ⟨y, rfl⟩ | ⟨y, rfl⟩
    · exact .inl ⟨.inl x, same⟩
    · exact .inl ⟨.inl x, by ac_rfl⟩
    · exact .inl ⟨.inr y, by ac_rfl⟩
    · exact .inr ⟨by rintro (z | z); exact x z; exact y z, rfl⟩

/-! ## One entry -/

theorem portEntries_eq_zero {q : List CommandEntry} {p : PortId} :
    portEntries q p = 0 ↔ ∀ e ∈ q, e.originator ≠ .port p := by
  simp [portEntries]

theorem State.port_flagDrained (s : State) (p : PortId) :
    ((s.port p).notify = .drained ∧ (∀ r, ∀ e ∈ s.queue r, e.originator ≠ .port p)
        ∧ (s.flagDrained p).port p = (s.port p).raise .cmd)
      ∨ (¬((s.port p).notify = .drained ∧ ∀ r, ∀ e ∈ s.queue r, e.originator ≠ .port p)
        ∧ (s.flagDrained p).port p = s.port p) := by
  have h : (portEntries (s.queue .a) p + portEntries (s.queue .b) p = 0) ↔ ∀ r, ∀ e ∈ s.queue r, e.originator ≠ .port p := by
    rw [Nat.add_eq_zero_iff, portEntries_eq_zero, portEntries_eq_zero]
    exact ⟨fun k r => by cases r; exact k.1; exact k.2, fun k => ⟨k .a, k .b⟩⟩
  rw [← h]
  unfold State.flagDrained
  split
  · rename_i k; exact .inl ⟨k.1, k.2, by simp [State.raise, State.modifyPort]⟩
  · rename_i k; exact .inr ⟨k, rfl⟩

theorem State.port_judgeDelivery (s : State) (p q : PortId) (l : Station) (item : Item) (v : Option Nat) (o : CommandEnd) :
    (s.judgeDelivery p l item v o).port q = s.port q := by
  unfold State.judgeDelivery; split <;> [split; skip] <;> simp

@[simp] theorem State.queue_flagDrained (s : State) (p : PortId) (t : TrunkId) : (s.flagDrained p).queue t = s.queue t := by
  simp [State.queue]

@[simp] theorem State.queue_judgeDelivery (s : State) (p : PortId) (l : Station) (item : Item) (v : Option Nat)
    (o : CommandEnd) (t : TrunkId) : (s.judgeDelivery p l item v o).queue t = s.queue t := by
  simp [State.queue]

/-- An entry that leaves the queue and is delivered DROPPED. -/
theorem State.dropEntry_reaches (s : State) (t : TrunkId) (e : CommandEntry) :
    DropsReach [e] (fun _ => []) 0 s (s.dropEntry t e) := by
  refine dropsReach_iff.2 fun p => ?_
  by_cases ho : e.originator = .port p
  · have hn : (s.setQueue t ((s.queue t).erase e)).port p = s.port p := by simp
    have hc : (s.setQueue t ((s.queue t).erase e)).clock = s.clock := by simp
    have hd : Drained [e] (fun _ => []) s (s.dropEntry t e) p ↔
        (s.port p).notify = .drained ∧ ∀ r, ∀ d ∈ (s.setQueue t ((s.queue t).erase e)).queue r, d.originator ≠ .port p := by
      have hq : ∀ r, (s.dropEntry t e).queue r = (s.setQueue t ((s.queue t).erase e)).queue r := fun r => by
        simp [State.dropEntry]
      simp only [Drained, hq]
      constructor
      · rintro ⟨h1, _, h3⟩; exact ⟨h1, h3⟩
      · rintro ⟨h1, h3⟩; exact ⟨h1, .inr ⟨e, by simp, ho⟩, h3⟩
    rw [hd]
    generalize hu : s.setQueue t ((s.queue t).erase e) = u at hn hc ⊢
    by_cases hr : e.releaseReported = true
    · have : s.dropEntry t e = u.flagDrained p := by rw [State.dropEntry, hu]; simp [State.deliver, ho, hr]
      have os : droppedOutcomes [e] p s.clock = [] := by simp [droppedOutcomes, hr]
      rw [this, os]
      rcases State.port_flagDrained u p with ⟨h1, h2, h⟩ | ⟨h1, h⟩ <;> rw [hn] at h1 h
      · exact ⟨.cmd, h, .inl ⟨⟨h1, h2⟩, by simp⟩⟩
      · exact ⟨0, by simp [h, Port.raise], .inr ⟨h1, rfl⟩⟩
    · have hr : e.releaseReported = false := by simpa using hr
      have : s.dropEntry t e = ((u.addOutcome p e.index e.item e.value .dropped).judgeDelivery p
          e.index e.item e.value .dropped).flagDrained p := by
        rw [State.dropEntry, hu]; simp [State.deliver, ho, hr]
      have os : droppedOutcomes [e] p s.clock = [⟨e.index, e.item, e.value, .dropped, s.clock⟩] := by
        simp [droppedOutcomes, hr, ho]
      have hp : (u.addOutcome p e.index e.item e.value .dropped).port p =
          (s.port p).addOutcome ⟨e.index, e.item, e.value, .dropped, s.clock⟩ := by
        simp [State.addOutcome, State.modifyPort, hn, hc]
      have hq : ∀ r, (u.addOutcome p e.index e.item e.value .dropped).queue r = u.queue r := fun r => by
        simp [State.addOutcome, State.modifyPort]
      rw [this, os]
      have hno : ((s.port p).addOutcome ⟨e.index, e.item, e.value, .dropped, s.clock⟩).notify = (s.port p).notify := rfl
      rcases State.port_flagDrained ((u.addOutcome p e.index e.item e.value .dropped).judgeDelivery p e.index e.item e.value
          .dropped) p with ⟨h1, h2, h⟩ | ⟨h1, h⟩ <;>
        rw [State.port_judgeDelivery, hp] at h <;> rw [State.port_judgeDelivery, hp, hno] at h1
      · exact ⟨.cmd, h, .inl ⟨⟨h1, fun r d hd => h2 r d (by simpa [hq] using hd)⟩, by simp⟩⟩
      · refine ⟨0, by simp [h, Port.raise], .inr ⟨fun k => h1 ⟨k.1, fun r d hd => k.2 r d ?_⟩, rfl⟩⟩
        simpa [hq] using hd
  · have hp : (s.dropEntry t e).port p = s.port p := by
      rw [State.dropEntry, State.port_deliver _ _ _ _ ho]; simp
    refine ⟨0, by simp [droppedOutcomes, ho, hp, Port.raise], .inr ⟨?_, rfl⟩⟩
    rintro ⟨_, h | ⟨d, hd, k⟩, _⟩
    · exact h rfl
    · rw [List.mem_singleton] at hd; exact ho (hd ▸ k)

/-! ## The waiting entries of a station -/

theorem State.dropEntries_reach (t : TrunkId) (xs : List CommandEntry) (s : State) :
    DropsReach xs (fun _ => []) 0 s (xs.foldl (fun s e => s.dropEntry t e) s) := by
  induction xs generalizing s with
  | nil => exact .nil s
  | cons e xs ih =>
    have hq : ∀ (ys : List CommandEntry) (u : State) (r : TrunkId), (ys.foldl (fun s e => s.dropEntry t e) u).queue r =
        if r = t then ys.foldl List.erase (u.queue t) else u.queue r := by
      intro ys
      induction ys with
      | nil => intro u r; by_cases h : r = t <;> simp [h]
      | cons y ys ih => intro u r; rw [List.foldl_cons, ih]; by_cases h : r = t <;> simp [h]
    have sub : ∀ (ys q : List CommandEntry), ∀ d ∈ ys.foldl List.erase q, d ∈ q := by
      intro ys
      induction ys with
      | nil => intro q d h; exact h
      | cons y ys ih => intro q d h; exact List.mem_of_mem_erase (ih _ d h)
    have left : ∀ (ys q : List CommandEntry), ∀ d ∈ q, d ∈ ys.foldl List.erase q ∨ d ∈ ys := by
      intro ys
      induction ys with
      | nil => intro q d h; exact .inl h
      | cons y ys ih =>
        intro q d h
        by_cases hd : d = y
        · exact .inr (by simp [hd])
        · exact (ih (q.erase y) d ((List.mem_erase_of_ne hd).2 h)).imp id fun k => by simp [k]
    have := (s.dropEntry_reaches t e).trans (ih (s.dropEntry t e)) (WorkFrame.dropEntry s t e).clock
      (fun r d h => by
        rw [hq] at h
        by_cases hr : r = t
        · subst hr; rw [if_pos rfl] at h; exact sub _ _ d h
        · rw [if_neg hr] at h; exact h)
      (fun r d h => by
        rw [hq]
        by_cases hr : r = t
        · subst hr; rw [if_pos rfl]; exact left _ _ d h
        · rw [if_neg hr]; exact .inl h)
    simpa using this

/-- The removal of a station's waiting entries, in every port. -/
theorem State.dropWaiting_reaches (s : State) (t : TrunkId) (l : Station) :
    DropsReach (waitingFor (s.queue t) l) (fun _ => []) 0 s (s.dropWaiting t l) := s.dropEntries_reach t _

/-! ## The override field and the limiter entry -/

theorem refusedBy_cons (e : CommandEntry) (xs : List CommandEntry) (l : Station) (ov : Override) :
    refusedBy (e :: xs) l ov = refusedBy xs l (refusedBy [e] l ov) := by
  by_cases h : e.index = l ∧ e.item = ov.item ∧ e.value = ov.value ∧ e.originator = .port ov.owner ∧ e.releaseReported = false
  · simp [refusedBy, h]
  · simp [refusedBy, h]

theorem clearedBy_cons (e : CommandEntry) (xs : List CommandEntry) (l : Station) (x : LimitEntry) :
    clearedBy (e :: xs) l x = clearedBy xs l (clearedBy [e] l x) := by
  by_cases h : e.index = l ∧ e.originator = .limiter ∧ x.state = .pending e.value
  · simp [clearedBy, h]
  · simp [clearedBy, h]

theorem State.image_dropEntry (s : State) (t : TrunkId) (e : CommandEntry) (k : Station) :
    (s.dropEntry t e).image k = { s.image k with override := (s.image k).override.map (refusedBy [e] k) } := by
  have keep : ∀ u : State, (∀ ov, refusedBy [e] k ov = ov) →
      u.image k = { u.image k with override := (u.image k).override.map (refusedBy [e] k) } := fun u h => by
    simp [show refusedBy [e] k = id from funext h]
  by_cases hk : k = e.index
  · subst hk
    rw [State.dropEntry]
    generalize hu : s.setQueue t ((s.queue t).erase e) = u
    have hi : s.image e.index = u.image e.index := by rw [← hu]; simp
    rw [hi]
    unfold State.deliver
    split
    · rename_i ho; exact keep _ (by simp [refusedBy, ho])
    · rename_i ho; rw [State.image_limiterOutcome]; exact keep _ (by simp [refusedBy, ho])
    · rename_i p ho
      split
      · rename_i hr; rw [State.image_flagDrained]; exact keep _ (by simp [refusedBy, hr])
      · rename_i hr
        rw [State.image_flagDrained]
        have hv : (u.addOutcome p e.index e.item e.value .dropped).image e.index = u.image e.index := by
          simp [State.addOutcome, State.modifyPort]
        rw [← hv]
        generalize u.addOutcome p e.index e.item e.value .dropped = v
        unfold State.judgeDelivery
        split
        · rename_i ov h
          split
          · rename_i c
            simp [State.modifyImage, refusedBy, h, ho, hr, c, Delivery.after]
          · rename_i c
            have c' : ¬(e.item = ov.item ∧ e.value = ov.value ∧ p = ov.owner) := fun k =>
              c ⟨k.2.2.symm, k.1.symm, k.2.1.symm⟩
            simp only [h, Option.map_some, refusedBy]
            rw [if_neg, ← h]
            rintro ⟨d, hd, _, h1, h2, h3, _⟩
            rw [List.mem_singleton] at hd
            subst hd
            rw [ho] at h3
            exact c' ⟨h1, h2, by simpa using h3⟩
        · rename_i h; simp only [h, Option.map_none]; rw [← h]
  · have hn : ∀ ov, refusedBy [e] k ov = ov := fun ov => by simp [refusedBy, Ne.symm hk]
    rw [State.dropEntry, State.image_deliver _ _ _ _ hk, State.setQueue_eq, State.image_setTrunk]
    exact keep s hn

theorem State.limit_dropEntry (s : State) (t : TrunkId) (e : CommandEntry) (k : Station) :
    (s.dropEntry t e).limit k = clearedBy [e] k (s.limit k) := by
  have same : ∀ u : State, (∀ x, clearedBy [e] k x = x) → u.limit k = clearedBy [e] k (u.limit k) := fun u h => (h _).symm
  rw [State.dropEntry]
  generalize hu : s.setQueue t ((s.queue t).erase e) = u
  have hl : s.limit k = u.limit k := by rw [← hu]; simp
  rw [hl]
  unfold State.deliver
  split
  · rename_i ho; exact same u (by simp [clearedBy, ho])
  · rename_i ho
    unfold State.limiterOutcome
    by_cases hk : k = e.index
    · subst hk
      split
      · rename_i cap h
        split
        · rename_i c; simp [clearedBy, ho, h, c, LimitEntry.after, LimitEntry.cleared]
        · rename_i c; simp [clearedBy, ho, h, c]
      all_goals rename_i h; simp [clearedBy, h]
    · have h1 : clearedBy [e] k (u.limit k) = u.limit k := by simp [clearedBy, Ne.symm hk]
      rw [h1]
      split <;> [split; rfl; rfl; rfl] <;> simp [hk]
  · rename_i p ho
    have h1 : ∀ (v : State) (q : PortId), (v.flagDrained q).limit k = v.limit k := fun v q => by
      unfold State.flagDrained; split <;> simp [State.raise, State.modifyPort]
    have h2 : ∀ v : State, (v.judgeDelivery p e.index e.item e.value .dropped).limit k = v.limit k := fun v => by
      unfold State.judgeDelivery; split <;> [split; skip] <;> simp [State.modifyImage]
    rw [show clearedBy [e] k (u.limit k) = u.limit k by simp [clearedBy, ho]]
    split
    · rw [h1]
    · rw [h1, h2]; simp [State.addOutcome, State.modifyPort]

theorem State.image_dropEntries (t : TrunkId) (xs : List CommandEntry) (s : State) (k : Station) :
    (xs.foldl (fun s e => s.dropEntry t e) s).image k =
      { s.image k with override := (s.image k).override.map (refusedBy xs k) } := by
  induction xs generalizing s with
  | nil =>
    have : refusedBy [] k = id := funext fun ov => by simp [refusedBy]
    simp [this]
  | cons e xs ih =>
    rw [List.foldl_cons, ih, State.image_dropEntry]
    simp [Function.comp_def, ← refusedBy_cons]

theorem State.limit_dropEntries (t : TrunkId) (xs : List CommandEntry) (s : State) (k : Station) :
    (xs.foldl (fun s e => s.dropEntry t e) s).limit k = clearedBy xs k (s.limit k) := by
  induction xs generalizing s with
  | nil => simp [clearedBy]
  | cons e xs ih => rw [List.foldl_cons, ih, State.limit_dropEntry, ← clearedBy_cons]

/-! ## An entry into LOST (R15) -/

theorem DropsReach.raiseAll {g : List CommandEntry} {told : PortId → List OutcomeEntry} {a : FlagSet} {s t : State}
    (h : DropsReach g told a s t) (f : FlagSet) : DropsReach g told (a ||| f) s (t.raiseAll f) := by
  refine dropsReach_iff.2 fun p => ?_
  obtain ⟨k, hk, d⟩ := dropsReach_iff.1 h p
  have hq : ∀ r, (t.raiseAll f).queue r = t.queue r := fun r => by simp [State.raiseAll, State.queue]
  refine ⟨k ||| f, by simp [State.raiseAll, hk, Port.raise_raise], ?_⟩
  simp only [Drained, hq]
  rcases d with ⟨x, rfl⟩ | ⟨x, rfl⟩
  · exact .inl ⟨x, BitVec.or_assoc ..⟩
  · exact .inr ⟨x, rfl⟩

/-- All that an entry into LOST leaves in the ports, the images and the limiter entries. -/
theorem State.enterLost_reaches (s : State) (l : Station) :
    DropsReach (waitingFor (s.queue (s.map l).trunk) l) (fun _ => []) .station s (s.enterLost l)
      ∧ (s.enterLost l).image l =
        { s.image l with
          state := .lost, override := (s.image l).override.map (refusedBy (waitingFor (s.queue (s.map l).trunk) l) l) }
      ∧ ∀ k, (s.enterLost l).limit k = clearedBy (waitingFor (s.queue (s.map l).trunk) l) k (s.limit k) := by
  refine ⟨?_, ?_, fun k => ?_⟩
  · have h := s.dropWaiting_reaches (s.map l).trunk l
    have : DropsReach (waitingFor (s.queue (s.map l).trunk) l) (fun _ => []) 0 s
        ((s.dropWaiting (s.map l).trunk l).modifyImage l fun x => { x with state := .lost }) := by
      simpa [DropsReach, State.modifyImage, State.queue] using h
    simpa [State.enterLost] using this.raiseAll .station
  · have h := State.image_dropEntries (s.map l).trunk (waitingFor (s.queue (s.map l).trunk) l) s l
    simp only [State.enterLost, State.raiseAll, State.image_eachPort, State.modifyImage, State.image_setImage, if_true]
    rw [State.dropWaiting, ← waitingFor, h]
  · have h := State.limit_dropEntries (s.map l).trunk (waitingFor (s.queue (s.map l).trunk) l) s k
    simp only [State.enterLost, State.raiseAll, State.limit_eachPort, State.modifyImage, State.limit_setImage]
    rw [State.dropWaiting, ← waitingFor, h]

end Sys2Proof.Machine
end

