-- ==== Sys2Proof/Laws/Due.lean ====
section
/-! SUPPORT. What idling hands on: the events that fall due are those that `State.Due` says, and a port's failure and a port's
leaving LIVE in the words of Safety.lean. And the validity of the copy (R175). -/

namespace Sys2Proof.Machine

/-! ## The events that fall due -/

theorem mem_dueIf {due : Bool} {i c : Instr} : c ∈ dueIf due i ↔ due = true ∧ c = i := by
  cases due <;> simp [dueIf]

theorem mem_portIds (p : PortId) : p ∈ portIds := List.mem_finRange p

theorem mem_stations (l : Station) : l ∈ stations := List.mem_finRange l

theorem PortFrame.isOpen_iff (f : PortFrame) (start : Nat) :
    f.isOpen start = true ↔ f.bytes.length < 64 ∧ start ≤ f.endAt + 30 := by
  simp [PortFrame.isOpen]

/-- The frame that has ended on a port is its oldest. -/
theorem Port.frameEnded_eq_some {x : Port} {clock : Nat} {bytes : List Byte} :
    x.frameEnded clock = some bytes ↔
      ∃ f fs, x.receiving = f :: fs ∧ bytes = f.bytes
        ∧ (fs ≠ [] ∨ (f.endAt ≤ clock ∧ (64 ≤ f.bytes.length ∨ f.endAt + 30 < clock))) := by
  rcases h : x.receiving with _ | ⟨f, _ | ⟨g, fs⟩⟩
  · simp [Port.frameEnded, h]
  · have ho : (f.isOpen clock || decide (clock < f.endAt)) = true ↔
        ¬(f.endAt ≤ clock ∧ (64 ≤ f.bytes.length ∨ f.endAt + 30 < clock)) := by
      simp [PortFrame.isOpen]; omega
    by_cases hc : f.endAt ≤ clock ∧ (64 ≤ f.bytes.length ∨ f.endAt + 30 < clock)
    · simp [Port.frameEnded, h, Bool.not_eq_true _ ▸ mt ho.1 (not_not.2 hc), hc, eq_comm]
    · simp [Port.frameEnded, h, ho.2 hc, hc]
  · simp [Port.frameEnded, h, eq_comm]

theorem State.mem_portDue {s : State} {p : PortId} {c : Instr} : c ∈ s.portDue p ↔ s.PortDue p c := by
  simp only [State.portDue, State.PortDue, List.mem_append, or_assoc]
  refine or_congr ?_ (or_congr ?_ ?_)
  · cases h : (s.port p).frameEnded s.clock with
    | none =>
      simp only [List.not_mem_nil, false_iff]
      rintro ⟨f, fs, h1, -, h2⟩
      rw [Port.frameEnded_eq_some.2 ⟨f, fs, h1, rfl, h2⟩] at h
      cases h
    | some bytes =>
      obtain ⟨f, fs, h1, rfl, h2⟩ := Port.frameEnded_eq_some.1 h
      simp [h1, h2]
  · cases (s.port p).sending <;> simp [mem_dueIf]
  · cases (s.port p).window with
    | none => simp
    | some w => cases h : (s.port p).state <;> cases k : w.kind <;> simp [mem_dueIf, Port.runs, Window.expiry, h, k]

theorem State.mem_stationDue {s : State} {l : Station} {c : Instr} : c ∈ s.stationDue l ↔ s.StationDue l c := by
  unfold State.stationDue State.StationDue
  cases h : (s.image l).state <;> cases k : (s.image l).reading <;>
    simp only [mem_dueIf, decide_eq_true_eq, List.not_mem_nil] <;> simp [Reading.ageDue, ticksPerSecond]

theorem Exchange.mem_endDue {x : Exchange} {t : TrunkId} {bt sent clock : Nat} {c : Instr} :
    c ∈ x.endDue t bt sent clock ↔
      (x.kind = .rollcall ∧ sent + 808 * bt ≤ clock ∧ c = .rollcallEnd t)
      ∨ ((∃ stamp, x.kind = .pair stamp) ∧ x.pairDue bt sent ≤ clock ∧ c = .pairExchangeEnd t)
      ∨ (x.kind.oneReply = true ∧ x.reply bt sent = none ∧ sent + 48 * bt ≤ clock ∧ c = .replyTimeout t)
      ∨ (x.kind.oneReply = true ∧ ∃ f, x.reply bt sent = some f ∧ f.endAt + 16 * bt ≤ clock ∧ c = .replyClosed t) := by
  unfold Exchange.endDue
  cases x.kind <;> cases x.reply bt sent <;> simp only [mem_dueIf, decide_eq_true_eq] <;>
    simp [ExchangeKind.oneReply, HeardFrame.closedAt]

theorem State.mem_trunkDue {s : State} {t : TrunkId} {c : Instr} : c ∈ s.trunkDue t ↔ s.TrunkDue t c := by
  have hb : (s.trunk t).bitTicks = 115200 / (s.trunk t).rate := rfl
  unfold State.trunkDue State.TrunkDue
  dsimp only
  rw [hb]
  cases h : (s.trunk t).exchange with
  | none => cases k : (s.trunk t).slot <;> simp [mem_dueIf, Trunk.slotDue, hb, k, and_comm, and_left_comm]
  | some x =>
    cases k : x.withheld with
    | true => simp [mem_dueIf, k]
    | false =>
      cases m : x.sentAt with
      | none =>
        simp only [mem_dueIf, decide_eq_true_eq, k, m, Bool.false_eq_true, if_false]
        simp [k, m, Exchange.readBackDue, Exchange.requestEnd, and_comm]
      | some sent => simp [Exchange.mem_endDue, k, m]

/-- The events that idling finds due are those that `State.Due` says. -/
theorem State.mem_dueEvents {s : State} {c : Instr} : c ∈ s.dueEvents ↔ s.Due c := by
  unfold State.dueEvents State.Due
  cases hp : s.powered with
  | false => simp
  | true =>
    have ht : (c ∈ s.trunkDue .a ∨ c ∈ s.trunkDue .b) ↔ ∃ t, s.TrunkDue t c := by
      rw [State.mem_trunkDue, State.mem_trunkDue]
      refine ⟨fun h => h.elim (⟨_, ·⟩) (⟨_, ·⟩), ?_⟩
      rintro ⟨t, h⟩
      cases t
      · exact .inl h
      · exact .inr h
    simp only [if_true, List.mem_append, List.mem_flatMap, mem_portIds, mem_stations, true_and, State.mem_portDue,
      State.mem_stationDue, or_assoc, ← ht]
    cases s.saving <;> simp only [mem_dueIf, decide_eq_true_eq, List.not_mem_nil] <;> simp [Saving.due, ticksPerSecond]

/-! ## A port that leaves LIVE -/

theorem State.releaseOwned_eq (s : State) (p : PortId) : s.releaseOwned p = s.releasedAll p := rfl

theorem State.leaveLive_eq (s : State) (p : PortId) : s.leaveLive p = (s.setOffer p none).releasedAll p := rfl

/-! ## The copy (R175) -/

theorem State.copyValid_iff (s : State) :
    s.copyValid = true ↔ s.copyWhole = true ∧ s.copyCheck = crc16 (Config.copyBytes s.copy) := by
  simp [State.copyValid, Settings.check]

/-- A copy that is not whole is invalid, whatever its check. -/
theorem State.copyValid_of_not_whole {s : State} (h : s.copyWhole = false) : s.copyValid = false := by
  simp [State.copyValid, h]

/-- A copy just written is valid. -/
@[simp] theorem State.copyValid_writeCopy (s : State) (x : Settings) : (s.writeCopy x).copyValid = true := by
  simp [State.copyValid_iff, State.writeCopy, Settings.check]

end Sys2Proof.Machine
end

