-- ==== Sys2Proof/Laws/Frames.lean ====
section
/-! SUPPORT. How the bytes heard on a trunk fall into frames: what has been heard before the newest frame no longer matters. -/

namespace Sys2Proof.Machine

/-- Bytes added to frames heard change the newest of them alone. -/
theorem addBytes_cons (bt : Nat) (bytes : List HeardByte) (f : HeardFrame) (fs : List HeardFrame) :
    bytes.foldl (addByte bt) (f :: fs) = bytes.foldl (addByte bt) [f] ++ fs := by
  induction bytes generalizing f fs with
  | nil => rfl
  | cons b bytes ih =>
    simp only [List.foldl_cons, addByte]
    split
    · rw [ih]
    · rw [ih, ih _ [f], List.append_assoc]; rfl

/-- Where the first byte of the rest cannot extend the newest frame, the frames of the rest are its own. -/
theorem framesOf_append {bt : Nat} {before rest : List HeardByte} {b : HeardByte}
    (h : ∀ f, (framesOf bt before).getLast? = some f → 255 ≤ f.bytes.length ∨ f.endAt + 16 * bt ≤ b.start) :
    framesOf bt (before ++ b :: rest) = framesOf bt before ++ framesOf bt (b :: rest) := by
  have h0 : framesOf bt (b :: rest) = (rest.foldl (addByte bt) [b.frame bt]).reverse := rfl
  rw [framesOf, List.foldl_append, List.foldl_cons, h0]
  cases k : before.foldl (addByte bt) [] with
  | nil => simp [framesOf, k, addByte]
  | cons f fs =>
    have : ¬(f.bytes.length < 255 ∧ b.start < f.endAt + 16 * bt) := by
      rcases h f (by simp [framesOf, k]) with h | h <;> omega
    rw [addByte, if_neg this, addBytes_cons, List.reverse_append, framesOf, k]

end Sys2Proof.Machine
end

