-- ==== Sys2Proof/Tests/Slice0.lean ====
section
/-! SUPPORT. Tests of one step each, on small states, with results worked out by hand from the manual; words of the manual's
encodings; ill-formed commands; and, for every statement with hypotheses, states and operands that meet them. -/

namespace Sys2Proof.Tests

open Sys2Proof.Machine

-- One test at a time: each is an evaluation by the kernel, and side by side they take a thread with its own stack each.
set_option Elab.async false

/-! ## States the tests start from -/

/-- A LIVE port whose REFRESH window of 10 s began at the reset. -/
def livePort (x : Profile) : Port :=
  { Port.atReset x with state := .live, window := some { kind := .refresh, startMs := 0, lengthMs := 10000 } }

/-- An OPENING port whose LONG window began at the reset. -/
def openingPort (x : Profile) : Port :=
  { Port.atReset x with state := .opening, window := some { kind := .long, startMs := 0, lengthMs := 30000 } }

/-- P0 LIVE and PLANT, P1 OPENING, P2 SHUT, P3 LIVE and OPERATOR. -/
def desk : State :=
  { State.reset with
    ports := #v[livePort .plant, openingPort .plant, { Port.atReset .plant with state := .shut, failures := 15 },
      livePort .operator] }

/-- P0 CLOSED and P1 OPENING beside a LAPSED P2, and no PLANT port LIVE. -/
def quietDesk : State :=
  desk.setPort 0 (Port.atReset .plant) |>.setPort 2
    { Port.atReset .plant with state := .lapsed, failures := 3, window := some { kind := .long, startMs := 0, lengthMs := 30000 } }

def single (t : TrunkId) (a : Nat) : MapPart :=
  { MapPart.default with enabled := true, trunk := t, address := a, qc := 1000, index := true, dpmin := 500 }

def twin (t : TrunkId) (a : Nat) : MapPart := { single t a with twin := true }

def reading (q ts tr : Nat) : Reading :=
  { q := q, ts := ts, tr := tr, v := 500, dp := some 1500, clamped := false, goodAt := 0 }

def liveImage (r : Reading) : Image :=
  { Image.atReset true with state := .live, reading := some r, status := some 0 }

/-- The desk with three stations: L0 single at A/1 and L1 a twin at A/2, both LIVE, and L119 single at B/62, WAITING. -/
def network : State :=
  desk.setMap 0 (single .a 1) |>.setMap 1 (twin .a 2) |>.setMap 119 (single .b 62)
    |>.setImage 0 (liveImage (reading 500 400 1200)) |>.setImage 1 (liveImage (reading 1000 400 800))
    |>.setImage 119 (Image.atReset true)

/-- The network with its mode. -/
def inRun : State := { network with mode := .run }

/-- A trunk that runs, at 19200 bit/s: one bit-time is 6 ticks. -/
def runs (s : State) : State := s.setTrunk .a { s.trunkA with state := .running }

/-- Entry 0 of trunk A's schedule holds a rule, with a length. -/
def withSlot (s : State) (k : EntryIndex) (rule : SlotRule) (length : Nat) : State :=
  s.setSlotEntry .a k { rule := rule, length := length }

def theOutcome (x : Host.Outcome State Fault Refusal) : State :=
  match x with
  | .next s => s
  | .refused _ => State.reset

/-- The state after a command. -/
def after (i : Instr) (s : State) : State := theOutcome (exec i s)

/-- The code and the payload of the response a port is sending. -/
def sent (s : State) (p : PortId) : Option (ResponseCode × List Byte) :=
  (s.port p).sending.map fun x => (x.response.code, x.response.payload)

def waitingEntry (l : Station) (item : Item) (v : Option Nat) (o : Originator) : CommandEntry := newEntry l item v o

/-- The entry in flight to L0. -/
def flying (l : Station) (item : Item) (v : Option Nat) (o : Originator) : CommandEntry :=
  { newEntry l item v o with stamp := some { index := l, generation := 0, address := 1 } }

/-! ## The encodings of chapter 12 -/

/-- The bytes "123456789", whose checks R181 gives. -/
def nineDigits : List Byte := [0x31, 0x32, 0x33, 0x34, 0x35, 0x36, 0x37, 0x38, 0x39]

theorem test_crc8_of_nine_digits : crc8 nineDigits = 0xF7 := by decide +kernel
theorem test_crc16_of_nine_digits : crc16 nineDigits = 0x29B1 := by decide +kernel
/-- R182's own example: a SCAN to address 14. -/
theorem test_scan_of_address_14 : scanRequest 14 = [0xA7, 0x0E, 0x01, 0xDD] := by decide +kernel
theorem test_pair_request : pairRequest 2 = [0xA7, 0x02, 0x02, 0x3A] := by decide +kernel
theorem test_command_request : commandRequest 2 .cap (some 400) = [0xA7, 0x02, 0x03, 0x01, 0x01, 0x90, 0x13] := by
  decide +kernel
theorem test_rollcall_request : rollcallRequest = [0xA7, 0x3F, 0x04, 0x6E] := by decide +kernel

/-- Request frames of every group of R183's table, written out byte by byte. -/
theorem test_frames_decode :
    judgeFrame 0 [0x5A, 0xC3, 0x07, 0x09, 0x01, 0xE3, 0xB5] = .hello 0 9
    ∧ judgeFrame 1 [0x5A, 0xC3, 0x09, 0x01, 0x05, 0x01, 0x22, 0x13, 0x25] = .ack 1 1 0x122
    ∧ judgeFrame 0 [0x5A, 0xC3, 0x0A, 0x02, 0x11, 0x76, 0x08, 0x01, 0x52, 0xA2] = .readImage 0 2 118 8 1
    ∧ judgeFrame 0 [0x5A, 0xC3, 0x15, 0x03, 0x20, 0x02, 0x00, 0x00, 0x03, 0xE8, 0x13, 0x88, 0x04, 0x00, 0xC8, 0x00, 0x00,
        0x00, 0x00, 0xF9, 0x3C] = .postOffer 0 3 2 0 1000 5000 4 200 0 0
    ∧ judgeFrame 3 [0x5A, 0xC3, 0x11, 0x04, 0x30, 0x07, 0x0B, 0x01, 0x20, 0x1F, 0x40, 0x02, 0x58, 0xAB, 0xCD, 0xA5, 0xA1] =
        .writeMap 3 4 7 11 1 32 8000 600 0xABCD
    ∧ judgeFrame 3 [0x5A, 0xC3, 0x08, 0x05, 0x34, 0x01, 0x33, 0x83] = .trunkStart 3 5 1
    ∧ judgeFrame 3 [0x5A, 0xC3, 0x0B, 0x06, 0x40, 0x77, 0x01, 0x03, 0xE8, 0x2B, 0x75] = .override 3 6 119 1 1000
    ∧ judgeFrame 3 [0x5A, 0xC3, 0x0D, 0x07, 0x43, 0x00, 0x05, 0x06, 0x00, 0x01, 0xF4, 0x1C, 0x53] =
        .admitCandidate 3 7 0 5 6 0 500
    ∧ judgeFrame 2 [0x5A, 0xC3, 0x09, 0x08, 0x99, 0x01, 0x02, 0xC9, 0x68] = .unknownRequest 2 8 0x99 := by decide +kernel

/-- Frames that R146 discards: a wrong sync byte, a wrong length, a wrong check, a wrong payload length. -/
theorem test_frames_discarded :
    [[0x5B, 0xC3, 0x07, 0x09, 0x01, 0xE3, 0xB5], [0x5A, 0xC3, 0x08, 0x09, 0x01, 0xE3, 0xB5],
      [0x5A, 0xC3, 0x07, 0x09, 0x01, 0xE3, 0xB4], [0x5A, 0xC3, 0x07],
      0x5A#8 :: 0xC3#8 :: [0x08#8, 9, 1, 0] ++ crc16Bytes [0x08#8, 9, 1, 0]].all
      (fun f => judgeFrame 0 f = .requestDiscarded 0) = true := by decide +kernel

theorem test_no_word_spells_a_command : decodeTableWord 8 0 = none := rfl

/-! ## Ill-formed commands: one for each check of WellFormed -/

/-- One operand too large for its field, for every field of the requests up to READ_PARAM. -/
theorem test_ill_formed_reads :
    [Instr.unknownRequest 0 256 0x99, .unknownRequest 0 0 256, .unknownRequest 0 0 0x01, .hello 0 256, .refresh 0 256,
      .setWindow 0 256 0, .setWindow 0 0 256, .status 0 256, .ack 0 256 0, .ack 0 0 65536, .setMask 0 256 0,
      .setMask 0 0 65536, .setNotify 0 256 0, .setNotify 0 0 256, .readDispatch 0 256 0, .readDispatch 0 0 256,
      .readImage 0 256 0 0 0, .readImage 0 0 256 0 0, .readImage 0 0 0 256 0, .readImage 0 0 0 0 256, .readStation 0 256 0,
      .readStation 0 0 256, .readQueue 0 256 0, .readQueue 0 0 256, .readCandidates 0 256, .readOutcomes 0 256,
      .readParam 0 256 0, .readParam 0 0 256].any Instr.wellFormed = false := by decide +kernel

/-- The same for the requests that write. -/
theorem test_ill_formed_writes :
    [Instr.fallbackClear 0 256, .postOffer 0 256 0 0 0 0 0 0 0 0, .postOffer 0 0 256 0 0 0 0 0 0 0,
      .postOffer 0 0 0 65536 0 0 0 0 0 0, .postOffer 0 0 0 0 65536 0 0 0 0 0, .postOffer 0 0 0 0 0 65536 0 0 0 0,
      .postOffer 0 0 0 0 0 0 256 0 0 0, .postOffer 0 0 0 0 0 0 0 65536 0 0, .postOffer 0 0 0 0 0 0 0 0 65536 0,
      .postOffer 0 0 0 0 0 0 0 0 0 65536, .withdrawOffer 0 256, .writeMap 0 256 0 0 0 0 0 0 0, .writeMap 0 0 256 0 0 0 0 0 0,
      .writeMap 0 0 0 256 0 0 0 0 0, .writeMap 0 0 0 0 256 0 0 0 0, .writeMap 0 0 0 0 0 256 0 0 0,
      .writeMap 0 0 0 0 0 0 65536 0 0, .writeMap 0 0 0 0 0 0 0 65536 0, .writeMap 0 0 0 0 0 0 0 0 65536,
      .writeSlot 0 256 0 0 0 0 0, .writeSlot 0 0 256 0 0 0 0, .writeSlot 0 0 0 256 0 0 0, .writeSlot 0 0 0 0 256 0 0,
      .writeSlot 0 0 0 0 0 256 0, .writeSlot 0 0 0 0 0 0 65536, .writeParam 0 256 0 0, .writeParam 0 0 256 0,
      .writeParam 0 0 0 65536, .save 0 256].any Instr.wellFormed = false := by decide +kernel

/-- The same for the trunk, override and admission requests. -/
theorem test_ill_formed_orders :
    [Instr.trunkStart 0 256 0, .trunkStart 0 0 256, .trunkStop 0 256 0, .trunkStop 0 0 256, .trunkResume 0 256 0,
      .trunkResume 0 0 256, .restart 0 256, .override 0 256 0 0 0, .override 0 0 256 0 0, .override 0 0 0 256 0,
      .override 0 0 0 0 65536, .release 0 256 0, .release 0 0 256, .cancel 0 256 0 0, .cancel 0 0 256 0, .cancel 0 0 0 256,
      .admitCandidate 0 256 0 0 0 0 0, .admitCandidate 0 0 256 0 0 0 0, .admitCandidate 0 0 0 256 0 0 0,
      .admitCandidate 0 0 0 0 256 0 0, .admitCandidate 0 0 0 0 0 256 0, .admitCandidate 0 0 0 0 0 0 65536,
      .reject 0 256 0 0, .reject 0 0 256 0, .reject 0 0 0 256, .forget 0 256 0 0, .forget 0 0 256 0,
      .forget 0 0 0 256].any Instr.wellFormed = false := by decide +kernel

/-! ## The plant link and the port supervisor -/

theorem test_requestDiscarded_sends_nothing :
    let s := desk.setPort 0 { desk.port 0 with receiving := [{ bytes := [0x5A], endAt := 10 }] }
    (after (.requestDiscarded 0) s).port 0 = desk.port 0 := by decide +kernel

theorem test_unknownRequest_by_state :
    sent (after (.unknownRequest 1 7 0x99) desk) 1 = some (.unknown, [])
    ∧ sent (after (.unknownRequest 2 7 0x99) desk) 2 = some (.shut, []) := by decide +kernel

/-- The worked sequence of section 9.6: of two requests turned away, the last alone is answered BUSY. -/
theorem test_responseComplete_sends_owed_busy :
    let s := after (.status 3 22) (after (.readQueue 3 21 1) (after (.readQueue 3 20 0) desk))
    ((after (.responseComplete 3) s).port 3).sending.map (fun x => (x.response.tag, x.response.code)) = some (22, .busy)
    ∧ (after (.responseComplete 3) (after (.responseComplete 3) s)).port 3 = desk.port 3 := by decide +kernel

/-- The worked case of section 9.6, step 2. -/
theorem test_hello_on_closed : sent (after (.hello 1 2) State.reset) 1 = some (.ok, [1, 0, 1, 0, 10]) := by decide +kernel

theorem test_hello_on_shut : ((after (.hello 2 2) desk).port 2).state = .lapsed
    ∧ ((after (.hello 2 2) desk).port 2).failures = 15 := by decide +kernel

/-- A REFRESH in the first half of a window of 10 s fails, and one at its middle does not (R164). -/
theorem test_refresh_halves :
    ((after (.refresh 0 1) { desk with clock := 4999 * 576 / 5 }).port 0).state = .lapsed
    ∧ ((after (.refresh 0 1) { desk with clock := 5 * 115200 }).port 0).window =
      some { kind := .refresh, startMs := 5000, lengthMs := 10000 } := by decide +kernel

theorem test_setWindow_clamps : ((after (.setWindow 1 1 61) desk).port 1).windowLen = 60
    ∧ ((after (.setWindow 1 1 1) desk).port 1).windowLen = 2 := by decide +kernel

/-- STATUS holds 12 bytes of the port, 8 of the ports, 9 of the network and the settings, 19 of each trunk and the time. -/
theorem test_status_length : (sent (after (.status 3 1) desk) 3).map (fun x => x.2.length) = some 69 := by decide +kernel

theorem test_ack_watchdog_clears_counter :
    let s := desk.setPort 0 { desk.port 0 with flags := 0x22, failures := 4 }
    ((after (.ack 0 1 0x20) s).port 0).flags = 0x02 ∧ ((after (.ack 0 1 0x20) s).port 0).failures = 0 := by decide +kernel

theorem test_setMask_without_candidate_on_plant : ((after (.setMask 0 1 0x1FF) desk).port 0).mask = 0x1EF
    ∧ ((after (.setMask 3 1 0x1FF) desk).port 3).mask = 0x1FF := by decide +kernel

theorem test_setNotify : ((after (.setNotify 3 1 1) desk).port 3).notify = .drained
    ∧ sent (after (.setNotify 3 1 2) desk) 3 = some (.unknown, []) := by decide +kernel

theorem test_longWindowExpiry_lapses : ((after (.longWindowExpiry 1) desk).port 1).state = .lapsed
    ∧ ((after (.longWindowExpiry 1) desk).port 1).failures = 1 := by decide +kernel

theorem test_refreshWindowExpiry_at_fifteen_shuts :
    let s := desk.setPort 0 { desk.port 0 with failures := 15 }
    ((after (.refreshWindowExpiry 0) s).port 0).state = .shut
    ∧ ((after (.refreshWindowExpiry 0) s).port 0).flags = 0x20 := by decide +kernel

theorem test_portByteReceived_extends :
    let s := after (.portByteReceived 0 0xC3) (after (.portByteReceived 0 0x5A) desk)
    (s.port 0).receiving = [{ bytes := [0x5A, 0xC3], endAt := 20 }] := by decide +kernel

/-! ## The reads -/

/-- READ_DISPATCH CURRENT in STARTING, as at step 4 of section 9.6. -/
theorem test_readDispatch_none : sent (after (.readDispatch 1 4 0) desk) 1 = some (.none, []) := by decide +kernel

theorem test_readImage_stops_at_L119 :
    (sent (after (.readImage 1 1 118 8 1) network) 1).map (fun x => (x.2.take 3, x.2.length)) = some ([118, 2, 1], 51) := by
  decide +kernel

theorem test_readStation_bounds : sent (after (.readStation 1 9 120) network) 1 = some (.badIndex, [])
    ∧ (sent (after (.readStation 1 9 0) network) 1).map (fun x => x.2.take 12) =
      some [1, 0, 1, 0, 0x03, 0xE8, 1, 0x01, 0xF4, 0, 0, 0] := by decide +kernel

theorem test_readQueue_shows_entry :
    let s := network.setQueue .a [waitingEntry 0 .cap (some 400) .limiter]
    sent (after (.readQueue 1 1 0) s) 1 = some (.ok, [1, 0, 1, 0x01, 0x90, 4, 0, 0, 0]) := by decide +kernel

theorem test_readCandidates_empty : sent (after (.readCandidates 1 1) network) 1 = some (.ok, [0, 0, 0, 0]) := by decide +kernel

theorem test_readOutcomes_empties :
    let s := desk.setPort 3 ((desk.port 3).addOutcome ⟨51, .hold, some 450, .refused, 115200⟩)
    sent (after (.readOutcomes 3 1) s) 3 = some (.ok, [0, 1, 51, 2, 0x01, 0xC2, 1, 0, 0, 0x03, 0xE8])
    ∧ ((after (.readOutcomes 3 1) s).port 3).outcomes = [] := by decide +kernel

theorem test_readParam_dTmin : sent (after (.readParam 1 1 0x0D) desk) 1 = some (.ok, [0x0D, 0x01, 0xF4]) := by decide +kernel

/-! ## Offers and the dispatch -/

theorem test_fallbackClear_sets_mark : (after (.fallbackClear 3 1) { desk with mode := .fallback }).clearMark = true := by
  decide +kernel

/-- The worked case of section 9.6, step 6. -/
theorem test_postOffer_clamps :
    sent (after (.postOffer 0 6 2 4000 9000 8000 0 65000 0 0) desk) 0 =
      some (.ok, [2, 255, 255, 0x1F, 0x40, 0x1F, 0x40, 1, 0xEA, 0x60, 255, 255, 255, 255]) := by decide +kernel

theorem test_withdrawOffer : sent (after (.withdrawOffer 0 1) desk) 0 = some (.none, [])
    ∧ (after (.withdrawOffer 0 1) (desk.setOffer 0 (some .off))).offer 0 = none := by decide +kernel

/-- The stations S1 to S5 of the worked dispatch, the four offers, and record 411. -/
def workedCase : State :=
  let station : Nat → Nat → Nat → Nat → Option Nat → StationState → Image := fun q ts tr v dp st =>
    { Image.atReset true with
      state := st, reading := some { q := q, ts := ts, tr := tr, v := v, dp := dp, clamped := false, goodAt := 0 } }
  let plain : Nat → MapPart := fun a => { MapPart.default with enabled := true, address := a }
  let share : PortId → OfferMode → Int → ShareEntry := fun p m x => ⟨p, m, x, 0, false⟩
  let s : State := { State.reset with
    mode := .run, setpoint := 2400, sequence := 411, dispatchDue := 48210 * 115200
    ports := Vector.replicate 4 (livePort .plant)
    offers := #v[some (.fixed 5000 2000 9000), some (.follow 3000 8000 1 1000), some (.follow 2500 7000 2 1000),
      some (.store 1 4000 3000)]
    current := some { State.reset.fallbackRecord with
      sequence := 411, mode := .run, shares := [share 1 .follow 6500, share 2 .follow 2500] } }
  s.setMap 10 (plain 1) |>.setMap 11 (plain 2) |>.setMap 12 { plain 3 with index := true, dpmin := 1000 }
    |>.setMap 13 { plain 4 with index := true, dpmin := 900 } |>.setMap 14 (plain 5)
    |>.setImage 10 (station 1250 550 1420 500 none .live) |>.setImage 11 (station 800 560 1210 500 none .live)
    |>.setImage 12 (station 2100 555 1100 720 (some 1180) .live) |>.setImage 13 (station 400 570 1480 860 (some 870) .live)
    |>.setImage 14 (station 950 560 1300 500 none .stale)

/-- The record of the worked dispatch, as chapter 3 prints it. -/
theorem test_worked_dispatch :
    (after .dispatchExpiry workedCase).current = some
      { sequence := 412, time := 48210, mode := .run, status := .balanced, demand := 16002, adjusted := 16482, flow := 5500
        setpoint := 2450, unmet := 0, incomplete := false, dpBlind := false, live := 4, stale := 1, excluded := 0
        shares := [⟨0, .fixed, 5000, 1668, false⟩, ⟨1, .follow, 7500, 2503, true⟩, ⟨2, .follow, 3482, 1162, false⟩,
          ⟨3, .store, 500, 167, false⟩] } := by decide +kernel

/-- "The same network at night": D′ = 4000, and the tank takes the 1000 kW that the base plant overshoots. -/
theorem test_worked_night :
    let a := allocate workedCase.parts 4000 fun p => if p = 1 then 7500 else if p = 2 then 3482 else 0
    a.fixed = [(0, 5000)] ∧ a.follow = [(1, 0, 0), (2, 0, 0)] ∧ a.store = [(3, -1000)] ∧ a.unmet 4000 = 0 := by
  decide +kernel

/-! ## The limiter -/

/-- L1 has dT = 400, below 500, and is not below a fifth of its design flow: its cap is 1000 · 400 / 500 (R68, R69). -/
theorem test_limiterExpiry_caps :
    let s := after .limiterExpiry inRun
    s.queue .a = [waitingEntry 1 .cap (some 800) .limiter] ∧ (s.limit 1).state = .pending (some 800)
    ∧ (s.limit 0).state = .none := by decide +kernel

/-- A station without flow is never low, a design flow of 1 to 4 included, whose fifth rounds down to 0 (R68). -/
theorem test_no_flow_is_never_low :
    isLow Params.default { single .a 1 with qc := 4 } (reading 0 400 400) = false
    ∧ isLow Params.default { single .a 1 with qc := 4 } (reading 1 400 400) = true := by decide +kernel

/-! ## The Station Table -/

/-- Address A/3 is the odd half of L1's twin. -/
theorem test_writeMap_duplicate : sent (after (.writeMap 3 1 5 1 0 3 0 0 0) network) 3 = some (.duplicate, [])
    ∧ ((after (.writeMap 3 1 5 1 0 4 9000 0 0) network).map 5).qc = 8000 := by decide +kernel

theorem test_writeMap_twin_at_odd_address : sent (after (.writeMap 3 1 5 3 0 7 0 0 0) network) 3 = some (.badIndex, []) := by
  decide +kernel

theorem test_override_clamps_and_queues :
    let s := after (.override 3 1 0 1 9000) network
    (s.image 0).override = some { owner := 3, item := .cap, value := some 8000, delivery := .pending }
    ∧ s.queue .a = [waitingEntry 0 .cap (some 8000) (.port 3)] := by decide +kernel

theorem test_release_queues_none :
    let s := after (.release 3 2 0) (after (.responseComplete 3) (after (.override 3 1 0 2 400) network))
    (s.image 0).override = none ∧ s.queue .a = [waitingEntry 0 .hold none (.port 3)] := by decide +kernel

/-- Step 9 of the worked queue: an entry in flight is not cancelled. -/
theorem test_cancel_in_flight :
    let s := network.setQueue .a [flying 0 .hold (some 450) (.port 3)]
    sent (after (.cancel 3 1 0 2) s) 3 = some (.inFlight, []) := by decide +kernel

def candidate (t : TrunkId) (a : Nat) : Candidate :=
  { trunk := t, address := a, firstSeen := 0, seen := 1, absences := 0, clash := false }

theorem test_admit_binds :
    let s := after (.admitCandidate 3 1 0 5 7 0 500) { network with candidates := [candidate .a 5, candidate .b 5] }
    (s.image 7).state = .waiting ∧ (s.map 7).address = 5 ∧ s.candidates = [candidate .b 5] := by decide +kernel

theorem test_reject_then_forget :
    let s := after (.reject 3 1 0 5) { network with candidates := [candidate .a 5], refusedA := [2, 9], overflow := true }
    s.refusedA = [2, 5, 9] ∧ s.candidates = [] ∧ s.overflow = false
    ∧ (after (.forget 3 1 0 9) { network with refusedA := [2, 9] }).refusedA = [2] := by decide +kernel

theorem test_staleAgeExpiry : (after (.staleAgeExpiry 0) network).image 0 = { network.image 0 with state := .stale }
    ∧ (after (.staleAgeExpiry 0) network).clock = 20 * 115200 := by decide +kernel

theorem test_holdLimitExpiry_drops_waiting :
    let s := (network.setImage 0 { network.image 0 with state := .stale }).setQueue .a [waitingEntry 0 .hold none (.port 3)]
    let t := after (.holdLimitExpiry 0) s
    (t.image 0).state = .lost ∧ t.queue .a = [] ∧ (t.port 3).outcomes = [⟨0, .hold, none, .dropped, 300 * 115200⟩]
    ∧ (t.port 0).flags = 0x004 := by decide +kernel

/-! ## Parameters and settings -/

/-- A limit Smax below Smin takes Smin with it, and S. -/
theorem test_writeParam_Smax : let s := after (.writeParam 3 1 0x09 1000) desk
    s.params.sMax = 1000 ∧ s.params.sMin = 1000 ∧ s.setpoint = 1000 := by decide +kernel

theorem test_writeParam_stale_age_rejudges :
    let s := after (.writeParam 3 1 0x03 5) { network with clock := 5 * 115200 }
    s.params.staleAge = 5 ∧ (s.image 0).state = .stale := by decide +kernel

theorem test_save_captures : let s := after (.save 3 1) network
    s.saving = some { captured := network.work, takenAt := 0 } ∧ s.copyWhole = false := by decide +kernel

/-- The network as a save of its settings has completed. -/
def saved : State := after .saveComplete { network with saving := some { captured := network.work, takenAt := 0 } }

theorem test_saveComplete : let s := saved
    s.copy = network.work ∧ s.copyWhole = true ∧ s.saving = none ∧ s.configDefaulted = false
    ∧ (s.port 1).flags = 0x080 := by decide +kernel

/-- The check written with the copy agrees with its contents, whatever their layout (R175). -/
theorem test_saved_copy_is_valid : saved.copyValid = true := (State.copyValid_iff saved).2 ⟨by decide +kernel, rfl⟩

/-- A full reset takes its settings from the valid copy (R177), and from the defaults where a save was cut short (R176). -/
theorem test_fullReset_judges_the_copy :
    (saved.startUp fun _ => .plant).work = network.work
    ∧ ((after (.save 3 1) network).startUp fun _ => .plant).work = Settings.default := by
  constructor
  · simp only [State.startUp, test_saved_copy_is_valid]
    rfl
  · decide +kernel

theorem test_fullReset_reads_straps : let s := after (.fullReset .operator .plant .plant .plant) inRun
    (s.port 0).profile = .operator ∧ (s.port 3).state = .closed ∧ s.mode = .starting ∧ s.dispatchDue = 5 * 115200
    ∧ (s.image 0).state = .unbound := by decide +kernel

/-- Autostart brings up a trunk whose schedule holds an entry (R178, step 5). -/
theorem test_autostart : let x : Params := { Params.default with autostart := true }
    comesUp x (withSlot State.reset 0 .rollcall 848).work.schedA = true
    ∧ comesUp x Settings.default.schedA = false := by decide +kernel

theorem test_resetAsserted_cuts_a_save : let s := after .resetAsserted (after (.save 3 1) network)
    s.powered = false ∧ s.copyWhole = false ∧ sent (after (.hello 0 1) s) 0 = none := by decide +kernel

theorem test_restart_resets_after_its_response :
    let s := after (.restart 3 1) inRun
    s.mode = .run ∧ (after (.responseComplete 3) s).mode = .starting
    ∧ ((after (.responseComplete 3) s).image 0).state = .waiting
    ∧ ((after (.responseComplete 3) s).port 2).flags = 0x100 := by decide +kernel

/-! ## Trunks -/

theorem test_trunkStart_empty : sent (after (.trunkStart 3 1 0) network) 3 = some (.empty, [])
    ∧ (after (.trunkStart 3 1 0) (withSlot network 5 .quiet 10)).trunkA.state = .running := by decide +kernel

theorem test_trunkStop : (after (.trunkStop 3 1 0) (runs network)).trunkA.state = .stopped
    ∧ ((after (.trunkStop 3 1 0) (runs network)).port 0).flags = 0x008 := by decide +kernel

theorem test_trunkResume_not_halted : sent (after (.trunkResume 3 1 0) (runs network)) 3 = some (.none, [])
    ∧ sent (after (.trunkResume 3 1 2) network) 3 = some (.badIndex, []) := by decide +kernel

theorem test_writeSlot_raises_to_minimum :
    sent (after (.writeSlot 3 1 0 95 5 0 1) desk) 3 = some (.ok, [5, 255, 0x03, 0x50]) := by decide +kernel

/-- The network at work: entry 0 scans L0. -/
def scanning : State := withSlot (runs network) 0 (.scan 0) 264

theorem test_slotStart_scans :
    ((after (.slotStart .a) scanning).trunkA.exchange.map (·.request)) = some [0xA7, 0x01, 0x01, 0x44]
    ∧ (after (.slotStart .a) scanning).trunkA.pointer = some 0 := by decide +kernel

/-- A slot of a twin without its tail: the even half's SCAN, and a mismatch. -/
theorem test_slotStart_mismatch :
    let s := after (.slotStart .a) (withSlot (runs network) 0 (.twinHead 1) 264)
    (s.trunkA.exchange.map (·.request)) = some (scanRequest 2) ∧ s.trunkA.lastMismatch = some 0
    ∧ (s.port 0).flags = 0x008 := by decide +kernel

/-- Four bytes at 10 bit-times of 6 ticks each. -/
theorem test_requestSent_time : let s := after (.requestSent .a) (after (.slotStart .a) scanning)
    s.clock = 240 ∧ (s.trunkA.exchange.map (·.sentAt)) = some (some 240) ∧ s.trunkA.commandMark = false := by decide +kernel

/-- The scan of L0, asked. -/
def asked : State := after (.requestSent .a) (after (.slotStart .a) scanning)

theorem test_replyTimeout_is_a_miss : let s := after (.replyTimeout .a) asked
    (s.image 0).misses = 1 ∧ s.clock = 240 + 48 * 6 ∧ s.trunkA.exchange = none := by decide +kernel

theorem test_trunkByteReceived_is_heard :
    ((after (.trunkByteReceived .a 0xA7 true) asked).trunkA.exchange.map (·.heard)) = some [⟨240, 0xA7, true⟩] := by
  decide +kernel

/-- The line is listened to from the end of the request on, while its last byte is still being read back (R85, R97). -/
theorem test_trunkByteReceived_before_the_read_back :
    let s := after (.slotStart .a) scanning
    ((after (.trunkByteReceived .a 0xA7 true) { s with clock := 240 }).trunkA.exchange.map (·.heard)) = some [⟨240, 0xA7, true⟩]
    ∧ after (.trunkByteReceived .a 0xA7 true) { s with clock := 239 } = { s with clock := 239 } := by decide +kernel

/-- A last byte found missing 2 bit-times after its stop bit halts the trunk, and the frame is not a sent one (R97). -/
theorem test_echoLost_of_the_last_byte :
    let s := { after (.slotStart .a) scanning with clock := 240 + 2 * 6 }
    (after (.echoLost .a) s).trunkA.state = .halted ∧ (after (.echoLost .a) s).trunkA.commandMark = true := by decide +kernel

/-- A data reply of L0: ATTENTION, 50.0 L/s, 40.00 and 80.00 °C, valve 500, no dp. -/
def dataReply : List Byte :=
  [0xA7, 0x01, 0x11, 0x01, 0x10, 0x01, 0xF4, 0x0F, 0xA0, 0x1F, 0x40, 0x01, 0xF4, 0xFF, 0xFF, 0xA8]

theorem test_replyClosed_reads :
    let s := after (.replyClosed .a) (dataReply.foldl (fun s b => after (.trunkByteReceived .a b true) s) asked)
    (s.image 0).reading = some
      { q := 500, ts := 4000, tr := 4000, v := 500, dp := none, clamped := true, goodAt := 240 + 16 * 60 }
    ∧ (s.image 0).status = some 0x10 ∧ s.queue .a = [waitingEntry 0 .poll none .module] := by decide +kernel

/-- An exchange of trunk A that is under way. -/
def exchanging (s : State) (kind : ExchangeKind) (a : Nat) (request : List Byte) (withheld : Bool) (sentAt : Option Nat) : State :=
  s.setTrunk .a { s.trunkA with
    exchange := some { kind := kind, address := a, request := request, withheld := withheld, startAt := 0, sentAt := sentAt
                       heard := [], disturbed := false } }

theorem test_pairExchangeEnd_without_replies :
    let s := after (.pairExchangeEnd .a) (exchanging (runs network) (.pair ⟨1, 0⟩) 2 (pairRequest 2) false (some 240))
    (s.image 1).misses = 1 ∧ s.clock = 240 + 256 * 6 := by decide +kernel

theorem test_rollcallEnd_disturbed_hands_nothing_on :
    let s := exchanging (runs network) .rollcall 63 rollcallRequest false (some 240)
    let s := after (.lineHeldCleared .a) (after (.lineHeldSet .a) s)
    (after (.rollcallEnd .a) s).clock = 240 + 808 * 6 ∧ (after (.rollcallEnd .a) s).trunkA.exchange = none
    ∧ (after (.rollcallEnd .a) s).candidates = [] := by decide +kernel

/-- A byte heard in the window of A/7, and what the Admission List makes of a presence there. -/
theorem test_rollcall_answer_lists_a_candidate :
    let x : Exchange := ⟨.rollcall, 63, rollcallRequest, false, 0, some 240, [⟨240 + 36 * 6 + 7 * 72, 0x6A, true⟩], false⟩
    x.answer 6 240 7 = .present ∧ x.answer 6 240 8 = .absent
    ∧ (State.admissionAnswer (x.answer 6 240) .a network 7).candidates = [candidate .a 7]
    ∧ ((State.admissionAnswer (x.answer 6 240) .a network 7).port 3).flags = 0x010 := by decide +kernel

theorem test_withheldExchangeEnd_is_a_miss :
    let s := after (.withheldExchangeEnd .a) (exchanging (runs network) (.scan ⟨0, 0⟩) 1 (scanRequest 1) true none)
    (s.image 0).misses = 1 ∧ s.clock = 88 * 6 := by decide +kernel

theorem test_txStuck_on_stopped : let s := after (.txStuck .a) network
    s.trunkA.state = .stopped ∧ s.trunkA.txEnabled = false ∧ (s.trunkA.fault.map (·.kind)) = some .txStuck := by decide +kernel

theorem test_echoLost_halts : let s := after (.echoLost .a) (after (.slotStart .a) scanning)
    s.trunkA.state = .halted ∧ s.trunkA.fault = some ⟨.echoLost, 0, some 0, some .scan⟩ ∧ s.trunkA.pointer = some 0 := by
  decide +kernel

theorem test_lineHeldSet_disturbs : let s := after (.lineHeldSet .a) asked
    s.trunkA.lineHeld = true ∧ (s.trunkA.exchange.map (·.disturbed)) = some true ∧ s.trunkA.state = .running := by decide +kernel

theorem test_lineHeldCleared : (after (.lineHeldCleared .a) (after (.lineHeldSet .a) network)).trunkA = network.trunkA
    ∧ ((after (.lineHeldCleared .a) (after (.lineHeldSet .a) network)).port 1).flags = 0x008 := by decide +kernel

/-! ## States and operands that meet the hypotheses of the statements

One theorem for each statement that has hypotheses, under its name: the hypotheses of its clauses, at states of this file, at the
ends of their ranges. -/

def isNext (x : Host.Outcome State Fault Refusal) : Bool :=
  match x with
  | .next _ => true
  | .refused _ => false

theorem exec_after {i : Instr} {s : State} (h : isNext (exec i s) = true) : exec i s = .next (after i s) := by
  unfold after theOutcome
  cases k : exec i s with
  | next t => rfl
  | fault r => cases r
  | refused r => rw [k] at h; cases h

theorem step_next {s : State} (h : isNext (step s) = true) : ∃ t, step s = .next t := by
  cases k : step s with
  | next t => exact ⟨t, rfl⟩
  | fault r => cases r
  | refused r => rw [k] at h; cases h

theorem witness_StepTakesCommandAtFront :
    ({ desk with pending := [.saveComplete, .hello 0 1] } : State).pending = .saveComplete :: [.hello 0 1]
    ∧ desk.pending = [] ∧ (after .resetAsserted desk).powered = false ∧ desk.powered = true := by decide +kernel

/-- Nothing is due on the desk at its first moment. -/
theorem witness_StepTakesCommandAtFront_none : ∀ c, ¬desk.Due c := by
  have h : desk.dueEvents = [] := by decide +kernel
  intro c k
  rw [← State.mem_dueEvents, h] at k
  cases k

/-- A dispatch is due 5 s after the reset, and not one tick before. -/
theorem witness_StepTakesCommandAtFront_due : ({ desk with clock := 5 * 115200 } : State).Due .dispatchExpiry :=
  State.mem_dueEvents.1 (by decide +kernel)

theorem witness_RequestFramesRoundTrip :
    (Instr.postOffer 0 255 255 65535 0 65535 255 65535 0 65535).wellFormed = true
    ∧ requestPort (.postOffer 0 255 255 65535 0 65535 255 65535 0 65535) = some 0
    ∧ (Instr.unknownRequest 2 0 0).wellFormed = true ∧ requestPort (.unknownRequest 2 0 0) = some 2 := by decide +kernel

theorem witness_FramesThatPass :
    ([0x5A, 0xC3, 0x07, 0x09, 0x01, 0xE3, 0xB5] : List Byte) =
        0x5A#8 :: 0xC3#8 :: 0x07#8 :: 0x09#8 :: 0x01#8 :: [] ++ crc16Bytes (0x07#8 :: 0x09#8 :: 0x01#8 :: [])
    ∧ requestLength (0x01#8).toNat = some 0
    ∧ ([0x5A, 0xC3, 0x09, 0x08, 0x99, 0x01, 0x02, 0xC9, 0x68] : List Byte) =
        0x5A#8 :: 0xC3#8 :: 0x09#8 :: 0x08#8 :: 0x99#8 :: [1, 2] ++ crc16Bytes (0x09#8 :: 0x08#8 :: 0x99#8 :: [1, 2])
    ∧ requestLength (0x99#8).toNat = none
    ∧ (0x5A#8 :: 0xC3#8 :: 0x08#8 :: 0x09#8 :: 0x01#8 :: [0] ++ crc16Bytes (0x08#8 :: 0x09#8 :: 0x01#8 :: [0])).length = 8
    ∧ judgeFrame 0 [0x5A, 0xC3, 0x07, 0x09, 0x01, 0xE3, 0xB5] ≠ .requestDiscarded 0 := by decide +kernel

/-- The desk with one frame on P0, of so many bytes, that ended at tick 1000; and the clock. -/
def heardOn (n clock : Nat) : State :=
  { desk with clock := clock }.setPort 0 { desk.port 0 with receiving := [{ bytes := List.replicate n 0, endAt := 1000 }] }

theorem witness_PortReception :
    (heardOn 63 1030).powered = true
    ∧ ((heardOn 63 1030).port 0).receiving = [] ++ [{ bytes := List.replicate 63 0, endAt := 1000 }]
    ∧ 63 < 64 ∧ (heardOn 63 1030).clock ≤ 1000 + 30
    ∧ ((heardOn 64 1030).port 0).receiving = [] ++ [{ bytes := List.replicate 64 0, endAt := 1000 }]
    ∧ 1000 + 30 < (heardOn 1 1031).clock ∧ (desk.port 0).receiving = [] := by decide +kernel

theorem witness_AnsweringCycle :
    let s := after (.status 3 20) desk
    let t := after (.status 3 21) s
    requestFields (.status 3 20) = some (20, 4, []) ∧ requestPort (.status 3 20) = some 3 ∧ desk.powered = true
    ∧ (desk.port 3).sending = none ∧ (s.port 3).sending ≠ none ∧ (s.port 3).owedBusy = none
    ∧ (t.port 3).owedBusy = some (21, 4) ∧ (t.port 3).sending.map (·.restarts) = some false := by decide +kernel

theorem witness_GateRefusesInOrder :
    requestRow (.save 3 1) = some (some .operator, true, true) ∧ requestFields (.save 3 1) = some (1, 0x33, [])
    ∧ requestPort (.save 3 1) = some 3
    ∧ State.reset.Free 3 ∧ (State.reset.port 3).state = .closed ∧ desk.Free 2 ∧ (desk.port 2).state = .shut
    ∧ desk.Opened 0 ∧ (desk.port 0).profile ≠ .operator
    ∧ requestRow (.withdrawOffer 1 1) = some (some .plant, true, false) ∧ desk.Opened 1
    ∧ (desk.port 1).profile = .plant ∧ (desk.port 1).state ≠ .live
    ∧ ({ desk with mode := .fallback } : State).Opened 3 ∧ (desk.port 3).state = .live
    ∧ (let s : State := { desk with saving := some { captured := desk.work, takenAt := 0 } }
       s.Opened 3 ∧ s.mode ≠ .fallback ∧ s.saving ≠ none) := by decide +kernel

theorem witness_ReadsOnlyAnswer :
    desk.Opened 1 ∧ quietDesk.Opened 2 ∧ desk.Opened 3 ∧ desk.params.read 0x01 = some 5 ∧ desk.params.read 0x15 = some 0
    ∧ desk.current = none ∧ desk.previous = none ∧ workedCase.Opened 0 ∧ workedCase.current.isSome = true
    ∧ (after .dispatchExpiry workedCase).previous.isSome = true := by decide +kernel

theorem witness_RecordLayouts :
    ([⟨0, .off, 0, 0, false⟩, ⟨3, .store, -1000, 0, true⟩] : List ShareEntry)[1]? = some ⟨3, .store, -1000, 0, true⟩
    ∧ (network.image 0).reading = some (reading 500 400 1200) ∧ (network.image 119).reading = none := by decide +kernel

theorem witness_ReadImageReturnsAStride : network.Opened 1 ∧ 120 ≤ 120 ∧ 119 < 120 := by decide +kernel

/-- P3 with so many outcomes listed. -/
def listing (n : Nat) : Port := { desk.port 3 with outcomes := List.replicate n ⟨0, .cap, none, .done, 0⟩ }

theorem witness_OutcomeListKeepsEight :
    (desk.setPort 3 (listing 8)).Opened 3 ∧ (listing 7).outcomes.length < 8 ∧ (listing 8).outcomes.length = 8
    ∧ (listing 0).notify = .each ∧ { listing 0 with notify := .drained }.notify = .drained := by decide +kernel

/-- The network with P3's HOLD of 400 on L0, its command in trunk A's queue or not. -/
def held (q : List CommandEntry) : State :=
  (network.setImage 0 { network.image 0 with override := some ⟨3, .hold, some 400, .pending⟩ }).setQueue .a q

theorem witness_OutcomesGoToTheirOriginator :
    (waitingEntry 0 .poll none .module).originator = .module
    ∧ (waitingEntry 0 .cap (some 400) .limiter).originator = .limiter
    ∧ (network.limit 0).state ≠ .pending (some 400)
    ∧ ((network.setLimit 0 ⟨.pending (some 400), 0⟩).limit 0).state = .pending (some 400)
    ∧ ((network.setLimit 0 ⟨.pending none, 0⟩).limit 0).state = .pending none
    ∧ (waitingEntry 0 .hold (some 400) (.port 3)).originator = .port 3
    ∧ (waitingEntry 0 .hold (some 400) (.port 3)).releaseReported = false ∧ (desk.port 3).notify = .each
    ∧ (let s := (held []).setPort 3 { desk.port 3 with notify := .drained }
       (s.port 3).notify = .drained ∧ portEntries (s.queue .a) 3 + portEntries (s.queue .b) 3 = 0)
    ∧ (let s := held [waitingEntry 0 .cap none (.port 3)]
       portEntries (s.queue .a) 3 + portEntries (s.queue .b) 3 ≠ 0)
    ∧ ((held []).image 0).override = some ⟨3, .hold, some 400, .pending⟩ ∧ (network.image 0).override = none
    ∧ { waitingEntry 0 .hold (some 400) (.port 3) with releaseReported := true }.releaseReported = true := by decide +kernel

theorem witness_HelloOpensThePort :
    State.reset.Free 0 ∧ ((State.reset.received 0).port 0).state = .closed ∧ desk.Free 1
    ∧ ((desk.received 1).port 1).state = .opening ∧ quietDesk.Free 2 ∧ ((quietDesk.received 2).port 2).state = .lapsed
    ∧ desk.Free 2 ∧ ((desk.received 2).port 2).state = .shut ∧ desk.Free 0 ∧ ((desk.received 0).port 0).state = .live := by
  decide +kernel

theorem witness_RefreshIsJudgedByItsTime :
    desk.Opened 1 ∧ ((desk.received 1).port 1).state = .opening ∧ quietDesk.Opened 2
    ∧ ((quietDesk.received 2).port 2).state = .lapsed ∧ desk.Opened 0 ∧ ((desk.received 0).port 0).state = .live
    ∧ ((desk.received 0).port 0).window = some { kind := .refresh, startMs := 0, lengthMs := 10000 }
    ∧ 0 + 10000 / 2 ≤ ({ desk with clock := 576000 } : State).nowMs
    ∧ ({ desk with clock := 575999 } : State).nowMs < 0 + 10000 / 2 := by decide +kernel

theorem witness_WindowExpiryIsAFailure :
    desk.powered = true ∧ (desk.port 1).window = some { kind := .long, startMs := 0, lengthMs := 30000 }
    ∧ (desk.port 1).state = .opening ∧ (quietDesk.port 2).state = .lapsed
    ∧ (quietDesk.port 2).window = some { kind := .long, startMs := 0, lengthMs := 30000 }
    ∧ (desk.port 0).window = some { kind := .refresh, startMs := 0, lengthMs := 10000 } ∧ (desk.port 0).state = .live := by
  decide +kernel

/-- A LIVE port's failure and its HELLO release its override: the command that waits ends DROPPED, and NONE is queued. -/
theorem test_lapse_releases_the_override :
    let s := held [waitingEntry 0 .hold (some 400) (.port 3)]
    let t := after (.refreshWindowExpiry 3) s
    (s.port 3).state = .live ∧ t.queue .a = [waitingEntry 0 .hold none .module] ∧ (t.image 0).override = none
    ∧ (t.port 3).outcomes = [⟨0, .hold, some 400, .dropped, 10 * 115200⟩]
    ∧ (after (.hello 3 1) s).queue .a = [waitingEntry 0 .hold none .module] := by decide +kernel

/-- The override's own command in flight takes the release-reported mark, and the one DROPPED is the release's (R22, R127). -/
theorem test_bindingChange_marks_the_command_in_flight :
    let own := flying 0 .hold (some 400) (.port 3)
    let t := (held [own]).bindingChange 0 MapPart.default
    t.queue .a = [{ own with releaseReported := true }] ∧ (t.image 0).override = none
    ∧ (t.port 3).outcomes = [⟨0, .hold, some 400, .dropped, 0⟩] ∧ (t.port 3).flags = 0x002 := by decide +kernel

/-- The override of a station that enters LOST stays, REFUSED where its own command was waiting (R15, R80). -/
theorem test_lost_refuses_the_override :
    let s := (held [waitingEntry 0 .hold (some 400) (.port 3)]).setImage 0 { (held []).image 0 with misses := 2 }
    ((s.tableResult ⟨0, 0⟩ .miss).image 0).override = some ⟨3, .hold, some 400, .refused⟩
    ∧ ((s.tableResult ⟨0, 0⟩ .miss).port 3).flags = 0x006 := by decide +kernel

theorem witness_LapseReleasesAnOverride :
    let own := waitingEntry 0 .hold (some 400) (.port 3)
    let other := waitingEntry 0 .hold (some 300) (.port 3)
    ((held [own]).image 0).override = some ⟨3, .hold, some 400, .pending⟩ ∧ QueueSound ((held [own]).queue .a)
    ∧ own ∈ (held [own]).queue .a ∧ (own.waiting && own.index == 0 && own.item == .hold && own.value == some 400
        && own.originator == .port 3) = true ∧ own.releaseReported = false
    ∧ QueueSound ((held [other]).queue .a)
    ∧ (∀ e ∈ (held [other]).queue .a,
        (e.waiting && e.index == 0 && e.item == .hold && e.value == some 400 && e.originator == .port 3) = false)
    ∧ (∀ e ∈ (held []).queue .a, waitingKey 0 .hold e = false)
    ∧ (∀ e ∈ (held [own]).queue .a, e.releaseReported = false) ∧ (∀ e ∈ (held [other]).queue .a, e.releaseReported = false) := by
  decide +kernel

theorem witness_FlagsMasksAndWindows :
    desk.Opened 0 ∧ desk.Opened 1 ∧ desk.Opened 3 ∧ Nat.testBit 0x20 5 = true ∧ (desk.port 0).state = .live ∧ 2 ≤ 2 := by
  decide +kernel

theorem witness_OffersAndFallbackClear :
    let plantless := desk.setPort 0 (openingPort .plant)
    plantless.Free 3 ∧ (plantless.port 3).state = .live ∧ ¬plantless.HasLivePlant ∧ desk.Free 3 ∧ (desk.port 3).state = .live
    ∧ desk.HasLivePlant ∧ ({ desk with mode := .fallback } : State).HasLivePlant ∧ desk.mode ≠ .fallback ∧ desk.Plants 0
    ∧ (workedCase.offer 0).isSome = true ∧ workedCase.Plants 0 ∧ desk.offer 0 = none ∧ 4 ≤ 4 := by decide +kernel

/-- The desk with no PLANT port LIVE. -/
def plantless (mode : NetMode) (mark : Bool) : State :=
  { desk.setPort 0 (openingPort .plant) with mode := mode, clearMark := mark }

theorem witness_DispatchFollowsTheMode :
    (plantless .starting false).powered = true ∧ (plantless .starting false).mode = .starting
    ∧ ¬(plantless .starting false).HasLivePlant
    ∧ desk.mode = .starting ∧ desk.HasLivePlant ∧ inRun.mode = .run ∧ inRun.HasLivePlant
    ∧ (let s : State := { desk with mode := .fallback, clearMark := true }
       s.mode = .fallback ∧ s.clearMark = true ∧ s.HasLivePlant)
    ∧ ({ desk with mode := .fallback } : State).clearMark = false
    ∧ (plantless .fallback true).mode = .fallback ∧ ¬(plantless .fallback true).HasLivePlant := by decide +kernel

/-- The network in RUN as the last PLANT port has left LIVE, with caps of the limiter ACTIVE at L0 and PENDING at L1. -/
def deserted (q : List CommandEntry) : State :=
  ((({ inRun.setPort 0 (openingPort .plant) with mode := .run } : State).setLimit 0 ⟨.active 300, 0⟩).setLimit 1
    ⟨.pending (some 800), 0⟩).setQueue .a q

theorem witness_FallbackIsEntered :
    (deserted []).powered = true ∧ (deserted []).mode = .run ∧ ¬(deserted []).HasLivePlant
    ∧ ((deserted []).limit 0).state = .active 300 ∧ ((deserted []).limit 1).state = .pending (some 800)
    ∧ (let s := deserted [waitingEntry 1 .cap (some 300) (.port 3)]
       ¬s.HasLivePlant ∧ QueueSound (s.queue .a) ∧ QueueSound (s.queue .b) ∧ waitingKey 1 .cap (waitingEntry 1 .cap (some 300) (.port 3)) = true
       ∧ ((after .dispatchExpiry s).port 3).outcomes = [⟨1, .cap, some 300, .dropped, 5 * 115200⟩]) := by decide +kernel

theorem witness_RecordFigures : ∃ t, exec .dispatchExpiry workedCase = .next t ∧ t.mode ≠ .starting :=
  ⟨_, exec_after (by decide +kernel), by decide +kernel⟩

/-- The worked case with S4's margin and valve: dp is 900 above the margin. -/
def refers (margin v : Nat) : State :=
  workedCase.setImage 13 { workedCase.image 13 with
    reading := some { reading 400 570 1480 with dp := some (900 + margin), v := v } }

/-- No station of the desk stands in the reference set. -/
theorem witness_DpResetMovesOneStep_blind : ∀ l m v, ¬({ desk with mode := .run } : State).refers l m v := by
  have h : ∀ l, ({ desk with mode := .run } : State).margin l = none := by decide +kernel
  intro l m v k
  rw [State.refers_iff, h] at k
  cases k

theorem witness_DpResetMovesOneStep_short : ∃ l m v, workedCase.refers l m v ∧ m < 0 :=
  ⟨13, -30, 860, (State.refers_iff ..).2 (by decide +kernel), by decide⟩

/-- A margin of 101 and a valve at 899 are to spare; a margin of 100, or a valve at 900, is not. -/
theorem witness_DpResetMovesOneStep_spare : ∀ l m v, (refers 101 899).refers l m v → (100 : Int) < m ∧ v < 900 := by
  have h : ∀ l, (((refers 101 899).margin l).all fun e => 100 < e.1 && e.2 < 900) = true := by decide +kernel
  intro l m v k
  rw [State.refers_iff] at k
  simpa [k] using h l

theorem witness_DpResetMovesOneStep_hold :
    (refers 100 899).refers 13 100 899 ∧ (refers 101 900).refers 13 101 900 :=
  ⟨(State.refers_iff ..).2 (by decide +kernel), (State.refers_iff ..).2 (by decide +kernel)⟩

theorem witness_DpResetMovesOneStep :
    (∃ t, exec .dispatchExpiry (refers 101 899) = .next t ∧ t.mode = .run)
    ∧ ∃ t, exec .dispatchExpiry (plantless .fallback false) = .next t ∧ t.mode ≠ .run ∧ t.mode ≠ .starting :=
  ⟨⟨_, exec_after (by decide +kernel), by decide +kernel⟩, ⟨_, exec_after (by decide +kernel), by decide +kernel⟩⟩

theorem witness_AllocationServesInOrder :
    workedCase.parts.Pairwise (fun a b => a.1 < b.1)
    ∧ (follows workedCase.parts)[1]? = some { port := 2, cmin := 2500, cmax := 7000, rank := 2, ramp := 1000 }
    ∧ (stores workedCase.parts)[0]? = some { port := 3, rank := 1, discharge := 4000, charge := 3000 } := by decide +kernel

theorem witness_RunSharesLieWithinOffers :
    workedCase.powered = true ∧ workedCase.OwnersSound
    ∧ ∃ t, exec .dispatchExpiry workedCase = .next t ∧ t.mode = .run :=
  ⟨by decide +kernel, by decide +kernel, _, exec_after (by decide +kernel), by decide +kernel⟩

/-- Three equal shares of two units of flow, and a port that takes heat out. -/
def threeShares : List ShareEntry := [⟨0, .fixed, 1, 0, false⟩, ⟨1, .follow, 1, 0, false⟩, ⟨2, .fixed, 1, 0, false⟩, ⟨3, .store, -1, 0, false⟩]

theorem witness_FlowIsDividedByRemainders :
    threeShares.Pairwise (fun a b => a.port < b.port)
    ∧ (let total := (threeShares.map fun e => e.share.toNat).sum
       0 < total ∧ 2 * 1 % total = 2 * 1 % total ∧ flowShare threeShares 2 ⟨1, .follow, 1, 0, false⟩ = 2 * 1 / total + 1)
    ∧ (⟨3, .store, -1, 0, false⟩ : ShareEntry).share ≤ 0 := by decide +kernel


/-! ### The limiter, the queues and the overrides -/

/-- L0 in scope, with a design flow of 1000: supply at 4.00 °C, return at `tr`, flow 1000; a status and a limiter entry. -/
def limited (tr : Nat) (status : StatusSet) (e : LimitEntry) : State :=
  (inRun.setImage 0 { liveImage (reading 1000 400 tr) with status := some status }).setLimit 0 e

/-- The same with the station exempt. -/
def exempted (e : LimitEntry) : State := (limited 899 0 e).setMap 0 { single .a 1 with exempt := true }

theorem witness_LimiterWorksInRun :
    desk.powered = true ∧ desk.mode ≠ .run ∧ inRun.powered = true ∧ inRun.mode = .run ∧ ¬inRun.ScopedNow 119 := by
  decide +kernel

theorem witness_LimiterDecidesByItsTables_scope :
    ((inRun.setImage 0 { inRun.image 0 with state := .stale }).image 0).reading = some (reading 500 400 1200)
    ∧ ¬(inRun.setImage 0 { inRun.image 0 with state := .stale }).ScopedNow 0
    ∧ ((limited 899 0 ⟨.none, 0⟩).image 0).reading = some (reading 1000 400 899)
    ∧ (limited 899 0 ⟨.none, 0⟩).ScopedNow 0 ∧ (limited 900 8 ⟨.none, 0⟩).ScopedNow 0
    ∧ (exempted ⟨.active 978, 0⟩).ScopedNow 0 := by decide +kernel

/-- A difference of 4.99 K is low and one of 5.00 K is not; one of 5.50 K is recovered. The cap of the low entry is 998, and caps
of 978 and 1018 are 20 away from it. -/
theorem witness_LimiterDecidesByItsTables :
    ¬isLowNow Params.default { single .a 1 with qc := 4 } (reading 0 400 400)
    ∧ isLowNow Params.default (single .a 1) (reading 1000 400 899) ∧ ¬isLowNow Params.default (single .a 1) (reading 1000 400 900)
    ∧ isLowNow Params.default (single .a 1) (reading 200 400 899) ∧ ¬isLowNow Params.default (single .a 1) (reading 199 400 899)
    ∧ isRecoveredNow Params.default (reading 1000 400 950) ∧ ¬isRecoveredNow Params.default (reading 1000 400 949)
    ∧ capNow Params.default (single .a 1) (reading 1000 400 899) = 998 ∧ 978 + 20 ≤ 998 ∧ 998 + 20 ≤ 1018
    ∧ ¬(979 + 20 ≤ 998 ∨ 998 + 20 ≤ 979) ∧ (8 : StatusSet).getLsbD 3 = true ∧ (0 : StatusSet).getLsbD 3 = false
    ∧ (1 : StatusSet).getLsbD 0 = true ∧ ¬((exempted ⟨.active 978, 0⟩).map 0).exempt = false := by decide +kernel

theorem witness_LimiterDecidesByItsTables_states :
    ((limited 900 8 ⟨.none, 0⟩).image 0).status = some 8
    ∧ ((limited 899 0 ⟨.pending (some 978), 0⟩).limit 0).state = .pending (some 978)
    ∧ ((limited 899 0 ⟨.pending none, 0⟩).limit 0).state = .pending none
    ∧ ((limited 950 0 ⟨.active 978, 2⟩).limit 0).state = .active 978 ∧ 2 ≤ ((limited 950 0 ⟨.active 978, 2⟩).limit 0).recovery
    ∧ ((limited 950 0 ⟨.active 978, 1⟩).limit 0).recovery < 2
    ∧ ((limited 900 1 ⟨.blocked (some 978), 0⟩).limit 0).state = .blocked (some 978)
    ∧ ((limited 900 1 ⟨.blocked (some 978), 0⟩).image 0).status = some 1 := by decide +kernel

/-- So many waiting entries, of different stations, for trunk A. -/
def crowd (n : Nat) : List CommandEntry :=
  (stations.drop 20).take n |>.map fun l => waitingEntry l .poll none .module

theorem witness_OfferedEntryIsTakenByItsKey :
    let old := waitingEntry 0 .cap (some 400) .limiter
    QueueSound ((held (old :: crowd 15)).queue .a) ∧ ((held (old :: crowd 15)).queue .a)[0]? = some old
    ∧ waitingKey 0 .cap old = true ∧ old.originator ≠ .port 3
    ∧ (∀ d ∈ (held (crowd 16)).queue .a, waitingKey 0 .cap d = false) ∧ ((held (crowd 15)).queue .a).length < 16
    ∧ QueueSound ((held (crowd 16)).queue .a) ∧ ((held (crowd 16)).queue .a).length = 16 := by decide +kernel

theorem witness_OverrideRefusals :
    network.Operates 3 ∧ 120 ≤ 120 ∧ (network.image 2).state = .unbound ∧ (network.image 119).state ≠ .unbound
    ∧ (3 : Nat) ≠ 1 ∧ (3 : Nat) ≠ 2
    ∧ (let s := network.setImage 0 { network.image 0 with override := some ⟨2, .hold, none, .pending⟩ }
       s.Operates 3 ∧ (s.image 0).override = some ⟨2, .hold, none, .pending⟩ ∧ (2 : PortId) ≠ 3)
    ∧ (let s := network.setQueue .a (crowd 16)
       let q := s.queue (s.map 0).trunk
       QueueSound q ∧ (s.image 0).override = none
       ∧ 16 + (if ∃ e ∈ q, waitingKey 0 .cap e = true ∧ e.originator = .limiter then 1 else 0)
          < q.length + placesNeeded q 0 .cap)
    ∧ (let s := held (crowd 15)
       let q := s.queue (s.map 0).trunk
       s.Operates 3 ∧ (s.image 0).state ≠ .unbound
       ∧ 16 < q.length + placesNeeded q 0 .cap + (if Item.hold = .cap then 0 else placesNeeded q 0 .hold)) := by decide +kernel

theorem witness_OverrideIsTaken :
    network.Operates 3 ∧ (network.image 0).state ≠ .unbound ∧ QueueSound (network.queue (network.map 0).trunk)
    ∧ (let q := waitingEntry 0 .cap (some 800) .limiter :: crowd 15
       let rest := q.filter fun e => !(waitingKey 0 .cap e && e.originator == .limiter)
       QueueSound q ∧ rest.length + placesNeeded rest 0 .hold ≤ 16)
    ∧ (held (crowd 15)).Operates 3 ∧ ((held (crowd 15)).image 0).override = some ⟨3, .hold, some 400, .pending⟩
    ∧ ((held (crowd 15)).queue .a).length + placesNeeded ((held (crowd 15)).queue .a) 0 .hold ≤ 16
    ∧ ((held (crowd 14)).queue .a).length + placesNeeded ((held (crowd 14)).queue .a) 0 .cap
        + placesNeeded ((held (crowd 14)).queue .a) 0 .hold ≤ 16 := by decide +kernel

theorem witness_ReleaseQueuesNone :
    network.Operates 3 ∧ 120 ≤ 120 ∧ (network.image 0).override = none
    ∧ (let s := network.setImage 0 { network.image 0 with override := some ⟨2, .hold, none, .pending⟩ }
       s.Operates 3 ∧ (s.image 0).override = some ⟨2, .hold, none, .pending⟩ ∧ (2 : PortId) ≠ 3)
    ∧ (held (crowd 16)).Operates 3 ∧ ((held (crowd 16)).image 0).override = some ⟨3, .hold, some 400, .pending⟩
    ∧ 16 < ((held (crowd 16)).queue .a).length + placesNeeded ((held (crowd 16)).queue .a) 0 .hold
    ∧ ((held (crowd 15)).queue .a).length + placesNeeded ((held (crowd 15)).queue .a) 0 .hold ≤ 16
    ∧ QueueSound ((held (crowd 15)).queue .a) := by decide +kernel

theorem witness_CancelRemovesWaitingEntry :
    network.Operates 3 ∧ (network.image 2).state = .unbound ∧ (network.image 0).state ≠ .unbound
    ∧ (let e := waitingEntry 0 .hold (some 400) (.port 3)
       QueueSound ((held [e]).queue .a) ∧ waitingKey 0 .hold e = true ∧ ∀ o, e.originator = .port o → o = 3)
    ∧ (let e := waitingEntry 0 .hold (some 400) (.port 2)
       waitingKey 0 .hold e = true ∧ e.originator = .port 2 ∧ (2 : PortId) ≠ 3)
    ∧ (let e := flying 0 .hold (some 450) (.port 3)
       QueueSound ((held [e]).queue .a) ∧ waitingKey 0 .hold e = false ∧ e.index = 0 ∧ e.item = .hold)
    ∧ (∀ e ∈ (held []).queue .a, e.index = 0 → e.item ≠ .hold) := by decide +kernel

/-! ### The Station Table, the parameters and the settings -/

theorem witness_MapWritesAreJudged :
    network.Configures 3 ∧ Nat.testBit 2 1 = true ∧ 61 % 2 = 1 ∧ (5 : Station).val = 5 ∧ trunkCode .b = 1 ∧ 62 ≤ 62
    ∧ (∃ k : Station, k ≠ 5 ∧ (network.map k).trunk = .a
        ∧ ∃ a ∈ ({ single .a 3 with index := false } : MapPart).addresses, a ∈ (network.map k).addresses)
    ∧ ¬∃ k : Station, k ≠ 5 ∧ (network.map k).trunk = .a ∧ ∃ a ∈ (single .a 62).addresses, a ∈ (network.map k).addresses := by
  decide +kernel

theorem witness_BindingChangeEffects :
    ((network.setImage 0 { network.image 0 with state := .lost }).image 0).state = .lost
    ∧ ((held [waitingEntry 0 .cap none (.port 3)]).image 0).override = some ⟨3, .hold, some 400, .pending⟩
    ∧ QueueSound ((held [waitingEntry 0 .cap none (.port 3)]).queue .a)
    ∧ (∀ e ∈ (held [waitingEntry 0 .cap none (.port 3)]).queue .a, e.waiting = true → e.releaseReported = false)
    ∧ (network.image 0).override = none
    ∧ (let own : CommandEntry → Bool := fun e =>
         e.index == 0 && e.item == .hold && e.value == some 400 && e.originator == .port 3
       let f := flying 0 .hold (some 400) (.port 3)
       let w := waitingEntry 0 .hold (some 400) (.port 3)
       own f = true ∧ f.waiting = false ∧ (waitingFor ((held [f]).queue .a) 0).all (!own ·) = true
       ∧ (waitingFor ((held [f, w]).queue .a) 0).all (!own ·) = false) := by decide +kernel

theorem witness_ReadingTimersExpire :
    network.powered = true ∧ (network.image 0).reading = some (reading 500 400 1200) ∧ (network.image 0).state = .live
    ∧ (let s := (held [waitingEntry 0 .hold (some 400) (.port 3)]).setImage 0
         { (held []).image 0 with state := .stale }
       (s.image 0).reading = some (reading 500 400 1200) ∧ (s.image 0).state = .stale ∧ QueueSound (s.queue .a)
       ∧ (s.image 0).override = some ⟨3, .hold, some 400, .pending⟩)
    ∧ (let e := waitingEntry 0 .hold (some 400) (.port 3)
       e.waiting = true ∧ e.index = 0 ∧ e.originator = .port 3 ∧ e.releaseReported = false) := by decide +kernel

theorem witness_ParametersAreClamped : desk.Configures 3 ∧ 0x15 < 0x16 := by decide +kernel

/-- A moment at which the reading of L0, whose HOLD waits, has reached the hold limit. -/
def aged : State := { held [waitingEntry 0 .hold (some 400) (.port 3)] with clock := 300 * 115200 }

theorem witness_NewAgeLimitsRejudgeEntries :
    network.Configures 3 ∧ network.params.Sound ∧ (network.image 0).state = .live ∧ 0 + 5 * 115200 ≤ 576000 := by
  decide +kernel

theorem witness_NewAgeLimitsRejudgeEntries_lost :
    (aged.Configures 3 ∧ aged.params.Sound)
    ∧ (aged.image 0).state = .live ∧ (aged.image 0).reading = some (reading 500 400 1200) ∧ 0 + 300 * 115200 ≤ aged.clock
    ∧ (aged.image 119).reading = none ∧ waitingFor (aged.queue .a) 0 ≠ [] := by
  refine ⟨by decide +kernel, ?_⟩
  decide +kernel

theorem witness_SaveCapturesAndCompletes :
    desk.Configures 3 ∧ (after (.save 3 1) desk).powered = true ∧ (after (.save 3 1) desk).saving.isSome = true := by
  decide +kernel

theorem witness_FullResetAndHeldReset :
    (desk.copyValid && desk.saving.isNone) = false ∧ (saved.copyValid && saved.saving.isNone) = true
    ∧ (after .resetAsserted desk).powered = false ∧ Instr.saveComplete ≠ .resetAsserted
    ∧ ∀ p0 p1 p2 p3 : Profile, Instr.saveComplete ≠ .fullReset p0 p1 p2 p3 :=
  ⟨by decide +kernel, by rw [test_saved_copy_is_valid]; decide +kernel, by decide +kernel, by decide +kernel,
    fun _ _ _ _ h => by cases h⟩

theorem witness_RestartResetsTheNetwork :
    desk.Operates 3 ∧ (let s := after (.restart 3 1) inRun
      s.powered = true ∧ (s.port 3).sending.map (·.restarts) = some true ∧ (s.port 3).owedBusy = none
      ∧ (let t := after (.status 3 2) s
         t.powered = true ∧ (t.port 3).sending.map (·.restarts) = some true ∧ (t.port 3).owedBusy = some (2, 4))) := by
  decide +kernel

/-- The BUSY owed at the end of the RESTART's OK is sent after the network has been reset (R147, R148). -/
theorem test_restart_sends_the_owed_busy :
    let t := after (.responseComplete 3) (after (.status 3 2) (after (.restart 3 1) inRun))
    t.mode = .starting ∧ (t.port 3).owedBusy = none
    ∧ (t.port 3).sending = some { response := codeResponse 2 4 .busy, endAt := 160, restarts := false } := by decide +kernel

/-! ### Trunks, slots and exchanges -/

/-- The network with trunk A in a state, and entry 5 of its schedule as given. -/
def trunkIn (st : TrunkState) (length : Nat) : State :=
  withSlot (network.setTrunk .a { network.trunkA with state := st }) 5 .quiet length

theorem witness_TrunkRequestsFollowTheState :
    network.Operates 3 ∧ 2 ≤ 2 ∧ (trunkIn .stopped 0).Operates 3 ∧ (trunkIn .stopped 0).trunkA.state = .stopped
    ∧ (∀ k, ¬inSweep ((trunkIn .stopped 0).schedule .a) k) ∧ (trunkIn .stopped 10).trunkA.state = .stopped
    ∧ ¬(∀ k, ¬inSweep ((trunkIn .stopped 10).schedule .a) k) ∧ (trunkIn .running 10).trunkA.state = .running
    ∧ (trunkIn .running 10).trunkA.exchange = none ∧ asked.trunkA.state = .running ∧ asked.trunkA.exchange ≠ none
    ∧ (trunkIn .stopping 10).trunkA.state = .stopping ∧ (trunkIn .halted 10).trunkA.state = .halted := by decide +kernel

theorem witness_SlotWritesAreClamped :
    desk.Configures 3 ∧ 2 ≤ 2 ∧ 96 ≤ 96 ∧ 7 ≤ 7 ∧ 120 ≤ 120 ∧ (119 : Station).val = 119 := by decide +kernel

/-- Trunk A with a request on the line. -/
def sending : State := after (.slotStart .a) scanning

/-- Trunk A with a command exchange under way, its request still being sent or sent. -/
def commanding (sentAt : Option Nat) : State :=
  exchanging (runs (held [flying 0 .cap (some 400) .limiter])) (.command .cap) 1 (commandRequest 1 .cap (some 400)) false sentAt

theorem witness_LineSupervision :
    network.powered = true ∧ network.trunkA.txEnabled = true ∧ network.trunkA.state = .stopped
    ∧ scanning.trunkA.txEnabled = true ∧ scanning.trunkA.state ≠ .stopped ∧ scanning.trunkA.sendsCommand = false
    ∧ (commanding none).trunkA.txEnabled = true ∧ (commanding none).trunkA.state ≠ .stopped
    ∧ (commanding none).trunkA.sendsCommand = true ∧ (commanding (some 420)).trunkA.sendsCommand = true
    ∧ ((commanding none).trunkA.exchange.map fun e => (e.withheld, e.sentAt)) = some (false, none)
    ∧ (sending.trunkA.exchange.map fun e => (e.withheld, e.sentAt)) = some (false, none)
    ∧ network.trunkA.lineHeld = false ∧ network.trunkA.exchange = none
    ∧ (asked.trunkA.exchange.map fun e => e.sentAt.isSome) = some true
    ∧ (after (.lineHeldSet .a) network).trunkA.lineHeld = true := by decide +kernel

/-- The halt leaves the command in the queue, waiting again. -/
theorem test_echoLost_keeps_the_command :
    (after (.echoLost .a) (commanding none)).queue .a = [waitingEntry 0 .cap (some 400) .limiter]
    ∧ (after (.txStuck .a) (commanding (some 420))).queue .a = [waitingEntry 0 .cap (some 400) .limiter] := by decide +kernel

theorem witness_AbandonedCommandIsKept :
    let e := flying 0 .cap (some 400) .limiter
    let w := waitingEntry 0 .cap (some 300) .limiter
    QueueSound ((held [e, w]).queue .a) ∧ ((held [e, w]).queue .a)[0]? = some e
    ∧ e.stamp = some { index := 0, generation := 0, address := 1 } ∧ ((held [e, w]).image e.index).generation = 0
    ∧ ((held [e, w]).queue .a)[1]? = some w ∧ waitingKey 0 .cap w = true
    ∧ (∀ d ∈ (held [e]).queue .a, waitingKey 0 .cap d = false)
    ∧ (((held [e]).setImage 0 { (held [e]).image 0 with generation := 255 }).image 0).generation ≠ 0 := by decide +kernel

/-- A schedule whose last entry alone, and one whose first entry too, stands in the sweep. -/
def lastOnly : Schedule := Settings.default.schedA.set 95 { rule := .quiet, length := 10 }

theorem witness_SlotTakesTheNextEntry :
    scanning.powered = true ∧ scanning.trunkA.state = .running ∧ scanning.trunkA.exchange = none
    ∧ (∀ k, ¬inSweep ((runs network).schedule .a) k)
    ∧ TakesSlot lastOnly none 95 false ∧ TakesSlot lastOnly (some 94) 95 false ∧ TakesSlot lastOnly (some 95) 95 true := by
  refine ⟨by decide +kernel, by decide +kernel, by decide +kernel, by decide +kernel, ?_, ?_, ?_⟩ <;>
    exact nextEntry_eq_some.1 (by decide +kernel)

theorem witness_SlotSendsByItsRule :
    network.trunkA.commandMark = true ∧ network.head .a = none
    ∧ ((network.map 0).enabled = true ∧ (network.map 0).trunk = .a ∧ (network.map 0).twin = false)
    ∧ ((network.map 1).enabled = true ∧ (network.map 1).trunk = .a ∧ (network.map 1).twin = true)
    ∧ ¬((network.map 119).enabled = true ∧ (network.map 119).trunk = .a)
    ∧ (let sched := (withSlot (withSlot network 0 (.twinHead 1) 264) 95 .twinTail 208).schedule .a
       inSweep sched 95 ∧ (∀ i, 0 < i → i < 95 → ¬inSweep sched i) ∧ (sched.get 95).rule = .twinTail)
    ∧ (∀ j, 95 < j → inSweep (lastOnly) j → (lastOnly.get j).rule ≠ .twinTail) := by decide +kernel

theorem witness_CommandSlotSendsTheHead :
    (let s := held [waitingEntry 119 .poll none .module, waitingEntry 0 .cap (some 401) .limiter]
     let t := (s.setTrunk .a { s.trunkA with commandMark := false }).setImage 119 { s.image 119 with state := .lost }
     QueueSound (t.queue .a) ∧ t.trunkA.commandMark = false ∧ (t.queue .a)[1]? = some (waitingEntry 0 .cap (some 401) .limiter)
     ∧ (t.image 0).state ≠ .lost ∧ (∀ d ∈ t.queue .a, d.waiting = true) ∧ (t.image 119).state = .lost)
    ∧ (let e := { flying 1 .cap (some 401) .limiter with evenDone := true }
       QueueSound ((held [e]).queue .a) ∧ e.stamp = some { index := 1, generation := 0, address := 1 } ∧ e.evenDone = true
       ∧ ((held [e]).map 1).twin = true)
    ∧ (let e := { flying 0 .cap (some 401) .limiter with evenDone := true }
       QueueSound ((held [e]).queue .a) ∧ e.evenDone = true ∧ ((held [e]).map 0).twin = false)
    ∧ (let s := (held [waitingEntry 119 .poll none .module]).setImage 119 { network.image 119 with state := .lost }
       s.queue .a ≠ [] ∧ ∀ d ∈ s.queue .a, d.waiting = true ∧ (s.image d.index).state = .lost) := by decide +kernel

theorem witness_RequestIsSentAndRepliesHeard :
    sending.powered = true ∧ (sending.trunkA.exchange.map fun e => (e.withheld, e.sentAt)) = some (false, none)
    ∧ (asked.trunkA.exchange.map fun e => (e.withheld, e.sentAt)) = some (false, some 240)
    ∧ (sending.trunkA.exchange.map fun e => e.startAt + 10 * e.request.length * (115200 / sending.trunkA.rate)) = some 240
    ∧ 240 ≤ ({ sending with clock := 240 } : State).clock ∧ ({ sending with clock := 239 } : State).clock < 240
    ∧ network.trunkA.exchange = none := by decide +kernel

theorem witness_StationResults :
    (network.image 2).state = .unbound ∧ (network.image 0).generation ≠ 255 ∧ (network.image 0).generation = 0
    ∧ (network.image 0).state ≠ .unbound ∧ (network.image 0).state ≠ .lost
    ∧ (let s := (held [waitingEntry 0 .hold (some 400) (.port 3)]).setImage 0 { (held []).image 0 with misses := 2 }
       s.params.faultMisses ≤ min 15 ((s.image 0).misses + 1) ∧ waitingFor (s.queue .a) 0 ≠ [])
    ∧ (let s := network.setImage 0 { network.image 0 with misses := 1 }
       min 15 ((s.image 0).misses + 1) < s.params.faultMisses)
    ∧ ((network.setImage 0 { network.image 0 with state := .lost }).image 0).state = .lost := by decide +kernel

theorem witness_RepliesAreJudgedInOrder :
    ([⟨0, 0xA7, true⟩, ⟨155, 0x01, true⟩] : List HeardByte).IsChain (fun a b => b.start < a.start + 26 * 6)
    ∧ (let h : HeardByte := ⟨0, 0xA7, true⟩
       let k : HeardByte := ⟨156, 0x01, true⟩
       h.start + 26 * 6 ≤ k.start ∧ (framesOf 6 [h, k]).map (·.bytes) = [[0xA7], [0x01]]
       ∧ (framesOf 6 (List.replicate 255 h)).getLast?.map (·.bytes.length) = some 255
       ∧ (framesOf 6 (List.replicate 256 h)).map (·.bytes.length) = [255, 1])
    ∧ (let body : List Byte := [0x01, 0x11, 0x01, 0x10, 0x01, 0xF4, 0x0F, 0xA0, 0x1F, 0x40, 0x01, 0xF4, 0xFF, 0xFF]
       dataReply = 0xA7 :: body ++ [0xA8] ∧ (0xA8 : Byte) = crc8 body ∧ (0xA9 : Byte) ≠ crc8 body ∧ (0x01 : Byte) = byte 1)
    ∧ (let body : List Byte := [0x01, 0x12, 0x01, 0x00, 0x00]
       (0x39 : Byte) = crc8 body ∧ (0x38 : Byte) ≠ crc8 body ∧ (0x01 : Byte) = byte Item.cap.code ∧ (0x01 : Byte) ≠ byte 2)
    ∧ (4 : StatusSet).getLsbD 2 = true ∧ (0x10 : StatusSet).getLsbD 2 = false := by decide +kernel

/-- A frame of one byte heard in an exchange, that began so many ticks after the end of the request. -/
def heardAt (kind : ExchangeKind) (withheld : Bool) (ticks : List Nat) : State :=
  let s := exchanging (runs network) kind 2 (pairRequest 2) withheld (if withheld then none else some 240)
  s.setTrunk .a { s.trunkA with
    exchange := s.trunkA.exchange.map fun x => { x with heard := ticks.map fun n => ⟨240 + n, 0xA7, true⟩ } }

/-- A frame in the first window begins 48 bit-times after the request at the latest, and one in the second between 224 and 256
bit-times. -/
theorem witness_ExchangesHandOnTheirResults :
    (heardAt (.scan ⟨0, 0⟩) true []).powered = true
    ∧ ((heardAt (.scan ⟨0, 0⟩) true []).trunkA.exchange.map fun x => (x.withheld, x.kind)) = some (true, .scan ⟨0, 0⟩)
    ∧ ((heardAt (.command .cap) false []).trunkA.exchange.map fun x => (x.withheld, x.sentAt)) = some (false, some 240)
    ∧ (∀ f ∈ framesOf 6 [], ¬(240 + 0 * 6 ≤ f.start ∧ f.start ≤ 240 + 48 * 6))
    ∧ (∀ f ∈ framesOf 6 [⟨240 + 48 * 6 + 1, 0xA7, true⟩], ¬(240 + 0 * 6 ≤ f.start ∧ f.start ≤ 240 + 48 * 6))
    ∧ (framesOf 6 [⟨240 + 48 * 6, 0xA7, true⟩, ⟨240 + 256 * 6, 0xA7, true⟩]).map (fun f => (f.start, f.endAt)) =
        [(240 + 48 * 6, 240 + 58 * 6), (240 + 256 * 6, 240 + 266 * 6)]
    ∧ 240 + 58 * 6 ≤ 240 + 224 * 6 := by decide +kernel

theorem witness_CommandResultsEndOrKeepTheEntry :
    let e := flying 0 .cap (some 400) .limiter
    QueueSound ((held [e]).queue .a) ∧ ((held [e]).queue .a)[0]? = some e
    ∧ e.stamp = some { index := 0, generation := 0, address := 1 } ∧ ((held [e]).image e.index).generation = 0
    ∧ (((held [e]).setImage 0 { (held [e]).image 0 with generation := 1 }).image 0).generation ≠ 0
    ∧ { e with attempts := 2 }.attempts = 2 ∧ e.attempts < 2 ∧ e.evenDone = false
    ∧ (∀ w ∈ (held [e]).queue .a, waitingKey e.index e.item w = false) ∧ ((held [e]).map 0).twin = false
    ∧ ((held [e]).map 1).twin = true ∧ (flying 1 .poll none .module).item = .poll ∧ e.item ≠ .poll
    ∧ ((held [e]).image 0).state ≠ .unbound
    ∧ QueueSound ((held [{ flying 1 .poll none .module with evenDone := true, evenStatus := some 1 }]).queue .a) := by
  decide +kernel

/-- Trunk A in a roll-call, disturbed or not. -/
def calling (disturbed : Bool) : State :=
  let s := exchanging (runs network) .rollcall 63 rollcallRequest false (some 240)
  s.setTrunk .a { s.trunkA with exchange := s.trunkA.exchange.map fun x => { x with disturbed := disturbed } }

theorem witness_RollcallAnswersAreTaken :
    (calling false).powered = true ∧ (calling false).trunkA.state = .running
    ∧ (((calling false).setTrunk .a { (calling false).trunkA with state := .stopping }).trunk .a).state = .stopping
    ∧ ((calling false).trunkA.exchange.map fun x => (x.kind, x.withheld, x.sentAt, x.disturbed)) =
        some (.rollcall, false, some 240, false)
    ∧ ((calling true).trunkA.exchange.map (·.disturbed)) = some true
    ∧ (network.map 119).trunk ≠ .a ∧ (network.map 1).enabled = true ∧ (3 : Nat) ∈ (network.map 1).addresses
    ∧ network.isBound .a 3 = true ∧ network.isBound .a 62 = false ∧ (62 : Nat) ∉ network.refused .a
    ∧ (let s : State := { network with candidates := [{ candidate .a 62 with absences := 2 }] }
       (∃ c ∈ s.candidates, c.trunk = .a ∧ c.address = 62) ∧ ∀ c ∈ s.candidates, c.absences ≤ 2)
    ∧ (∀ c ∈ (List.replicate 8 (candidate .b 5)), ¬(c.trunk = .a ∧ c.address = 62))
    ∧ (List.replicate 7 (candidate .b 5)).length < 8 := by decide +kernel

theorem witness_AdmissionRequestsAreJudged :
    let s : State := { network with candidates := [candidate .a 62, candidate .a 3], refusedA := [5] }
    s.Operates 3 ∧ 62 < 63 ∧ ¬(62 = 0 ∨ 62 < 62) ∧ (∃ c ∈ s.candidates, c.trunk = .a ∧ c.address = 62)
    ∧ (¬∃ c ∈ s.candidates, c.trunk = .a ∧ c.address = 61) ∧ (s.refused .a).Pairwise (· < ·) ∧ (5 : Nat) ∈ s.refused .a
    ∧ (62 : Nat) ∉ s.refused .a ∧ (s.image 0).state ≠ .unbound ∧ (s.image 7).state = .unbound
    ∧ (∃ k : Station, k ≠ 7 ∧ (s.map k).trunk = .a ∧ ∃ a ∈ (single .a 3).addresses, a ∈ (s.map k).addresses)
    ∧ ¬∃ k : Station, k ≠ 7 ∧ (s.map k).trunk = .a ∧ ∃ a ∈ (single .a 62).addresses, a ∈ (s.map k).addresses := by decide +kernel

/-! ### What every step keeps -/

theorem witness_StepKeepsPortsSound : network.PortsSound ∧ ∃ t, step network = .next t :=
  ⟨by decide +kernel, step_next (by decide +kernel)⟩

/-- No two enabled entries of the network share an address: three are enabled. -/
theorem network_unique : network.work.Unique := by
  have h : ∀ l : Station, l ≠ 0 → l ≠ 1 → l ≠ 119 → (network.work.maps.get l).addresses = [] := by decide +kernel
  have h3 : ∀ k ∈ ([0, 1, 119] : List Station), ∀ l ∈ ([0, 1, 119] : List Station), k ≠ l →
      (network.work.maps.get k).trunk = (network.work.maps.get l).trunk →
      ∀ a ∈ (network.work.maps.get k).addresses, a ∉ (network.work.maps.get l).addresses := by decide +kernel
  have mem : ∀ l : Station, l ∈ ([0, 1, 119] : List Station) ∨ (network.work.maps.get l).addresses = [] := fun l => by
    by_cases h0 : l = 0
    · simp [h0]
    · by_cases h1 : l = 1
      · simp [h1]
      · by_cases h2 : l = 119
        · simp [h2]
        · exact .inr (h l h0 h1 h2)
  intro k l hne ht a ha hb
  rcases mem k with hk | hk
  · rcases mem l with hl | hl
    · exact h3 k hk l hl hne ht a ha hb
    · rw [hl] at hb; cases hb
  · rw [hk] at ha; cases ha

/-- The copy binds no entry. -/
theorem copy_unique : network.copy.Unique := by
  have h : ∀ l : Station, (network.copy.maps.get l).addresses = [] := by decide +kernel
  intro k l _ _ a ha
  rw [h] at ha
  cases ha

theorem network_settings_sound : network.SettingsSound := by
  refine ⟨⟨?_, ?_, network_unique, ?_, ?_⟩, ⟨?_, ?_, copy_unique, ?_, ?_⟩, fun x (h : _ ∈ none) => ?_, ?_⟩
  case refine_9 => cases h
  all_goals decide +kernel

theorem witness_StepKeepsSettingsSound : network.SettingsSound ∧ ∃ t, step network = .next t :=
  ⟨network_settings_sound, step_next (by decide +kernel)⟩

theorem witness_StepKeepsQueuesAndTrunksSound :
    network.SettingsSound ∧ network.QueuesSound ∧ network.TrunksSound ∧ ∃ t, step network = .next t := by
  refine ⟨network_settings_sound, by decide +kernel, fun _ => ⟨?_, ?_⟩, step_next (by decide +kernel)⟩ <;>
    refine ⟨?_, ?_, ?_, ?_, ?_, ?_, ?_⟩ <;> decide +kernel

theorem witness_StepKeepsAdmissionSound :
    ({ network with candidates := [candidate .a 62, candidate .b 3], refusedA := [5] } : State).AdmissionSound := by decide +kernel

theorem witness_StepKeepsImagesAndOwnersSound : (held []).ImagesSound ∧ (held []).OwnersSound := by decide +kernel

theorem witness_StepKeepsRecordsSound : (after .dispatchExpiry { workedCase with current := none, mode := .starting }).RecordsSound := by
  decide +kernel

end Sys2Proof.Tests
end

/-! # Proofs: steps that keep what the table, the ports and the settings hold -/

section
namespace Sys2Proof.Machine

/-! ## Operands -/

theorem clampNat_bounds {a b : Nat} (h : a ≤ b) (x : Nat) : a ≤ clampNat x a b ∧ clampNat x a b ≤ b := by
  unfold clampNat; split <;> [skip; split] <;> omega

theorem clampNat_eq_max_min {a b : Nat} (h : a ≤ b) (x : Nat) : clampNat x a b = max a (min x b) := by
  unfold clampNat; split <;> [skip; split] <;> omega

@[simp] theorem stationOf_val (l : Station) : stationOf l.val = some l := by simp [stationOf]

theorem stationOf_of_le {n : Nat} (h : 120 ≤ n) : stationOf n = none := by simp [stationOf]; omega

@[simp] theorem trunkOf_trunkCode (t : TrunkId) : trunkOf (trunkCode t) = some t := by cases t <;> rfl

theorem trunkOf_of_le {n : Nat} (h : 2 ≤ n) : trunkOf n = none := by
  match n, h with
  | n + 2, _ => rfl

/-! ## What a command gives -/

/-- The outcome is a next state, of which `P` holds. -/
def Gives (P : State → Prop) : Host.Outcome State Fault Refusal → Prop
  | .next t => P t
  | .fault _ => False
  | .refused _ => False

theorem Gives.of_eq {P : State → Prop} {o : Host.Outcome State Fault Refusal} {t : State} (h : Gives P o) (e : o = .next t) :
    P t := by
  subst e; exact h

theorem Gives.mono {P Q : State → Prop} {o : Host.Outcome State Fault Refusal} (h : Gives P o) (k : ∀ t, P t → Q t) :
    Gives Q o := by
  cases o with
  | next t => exact k t h
  | fault r => exact h
  | refused r => exact h

/-- A property that the answering of a port leaves alone, and that carrying a request out keeps where the gate lets it pass, is
kept by the taking of the request. -/
theorem State.take_keeps {P : State → Prop} {p : PortId} {tag code : Nat} {gate : State → PortId → Option ResponseCode}
    {restarts : Bool} {f : State → Carried} {s : State}
    (port : ∀ (u : State) (x : Port), x.profile = (u.port p).profile → x.state = (u.port p).state → P u → P (u.setPort p x))
    (carry : ∀ u : State, gate u p = none → P u → P (f u).1) (h : P s) : P (s.take p tag code gate restarts f) := by
  unfold State.take
  split
  · have h1 : P (s.frameJudged p) := port s _ rfl rfl h
    dsimp only
    split
    · exact port _ _ rfl rfl h1
    · split
      · exact port _ _ rfl rfl h1
      · rename_i g
        exact port _ _ rfl rfl (carry _ g h1)
  · exact h

/-- A request that passes the gate of the OPERATOR requests comes from a LIVE OPERATOR port. -/
theorem State.gate_operator {s : State} {p : PortId} (h : s.gate p .operator = none) :
    (s.port p).profile = .operator ∧ (s.port p).state = .live := by
  cases k : (s.port p).profile <;> cases m : (s.port p).state <;> simp [State.gate, Access.operator, k, m] at h ⊢

/-- A request that passes the gate of the PLANT requests comes from a LIVE PLANT port. -/
theorem State.gate_plant {s : State} {p : PortId} (h : s.gate p .plant = none) :
    (s.port p).profile = .plant ∧ (s.port p).state = .live := by
  cases k : (s.port p).profile <;> cases m : (s.port p).state <;> simp [State.gate, Access.plant, k, m] at h ⊢

/-! ## Quiet changes -/

/-- What the laws of the settings speak of. -/
def State.settingsPart (s : State) : Settings × Settings × Option Saving × Nat := (s.work, s.copy, s.saving, s.setpoint)

/-- What an override claims: all but its delivery state. -/
def Override.claim (ov : Override) : PortId × Item × Option Nat := (ov.owner, ov.item, ov.value)

/-- A limiter entry goes on to another as an outcome lets it (R74): one that claims nothing stays as it is. -/
def LimitEntry.LeadsTo (x y : LimitEntry) : Prop := (x.state = .none → y = x) ∧ (x.Sound → y.Sound)

theorem LimitEntry.LeadsTo.refl (x : LimitEntry) : x.LeadsTo x := ⟨fun _ => rfl, id⟩

theorem LimitEntry.LeadsTo.trans {x y z : LimitEntry} (h : x.LeadsTo y) (k : y.LeadsTo z) : x.LeadsTo z := by
  refine ⟨fun hx => ?_, fun hx => k.2 (h.2 hx)⟩
  have hy := h.1 hx
  subst hy
  exact k.1 hx

/-- Between the two states settings, offers and what the ports are have stayed, the images but for the delivery states of
overrides, and the limiter entries but for what outcomes make of them. -/
structure Quiet (s t : State) : Prop where
  settings : t.settingsPart = s.settingsPart
  offers : t.offers = s.offers
  port : ∀ p, (t.port p).profile = (s.port p).profile ∧ (t.port p).state = (s.port p).state
  image : ∀ l, t.image l = { s.image l with override := (t.image l).override }
  claim : ∀ l, (t.image l).override.map Override.claim = (s.image l).override.map Override.claim
  limit : ∀ l, (s.limit l).LeadsTo (t.limit l)

namespace Quiet

/-- Where the tables and the ports stand, what else changes is quiet. -/
theorem of_tables {s t : State} (settings : t.settingsPart = s.settingsPart) (offers : t.offers = s.offers)
    (ports : ∀ p, (t.port p).profile = (s.port p).profile ∧ (t.port p).state = (s.port p).state) (images : t.images = s.images)
    (limits : t.limits = s.limits) : Quiet s t where
  settings := settings
  offers := offers
  port := ports
  image l := by rw [State.image, images]; rfl
  claim l := by rw [State.image, images]; rfl
  limit l := by
    have h : t.limit l = s.limit l := by rw [State.limit, limits]; rfl
    rw [h]; exact .refl _

theorem refl (s : State) : Quiet s s := of_tables rfl rfl (fun _ => ⟨rfl, rfl⟩) rfl rfl

theorem trans {s t u : State} (h : Quiet s t) (k : Quiet t u) : Quiet s u where
  settings := k.settings.trans h.settings
  offers := k.offers.trans h.offers
  port p := ⟨(k.port p).1.trans (h.port p).1, (k.port p).2.trans (h.port p).2⟩
  image l := by rw [k.image l, h.image l]
  claim l := (k.claim l).trans (h.claim l)
  limit l := (h.limit l).trans (k.limit l)

theorem work {s t : State} (h : Quiet s t) : t.work = s.work := congrArg (·.1) h.settings
theorem map {s t : State} (h : Quiet s t) (l : Station) : t.map l = s.map l := by simp [State.map, h.work]
theorem params {s t : State} (h : Quiet s t) : t.params = s.params := by simp [State.params, h.work]
theorem offer {s t : State} (h : Quiet s t) (p : PortId) : t.offer p = s.offer p := by simp [State.offer, h.offers]
theorem stationState {s t : State} (h : Quiet s t) (l : Station) : (t.image l).state = (s.image l).state := by rw [h.image l]

/-- An override there was is there still, but for its delivery state, and none other has come. -/
theorem override_none {s t : State} (h : Quiet s t) (l : Station) : (t.image l).override = none ↔ (s.image l).override = none := by
  rw [← Option.map_eq_none_iff (f := Override.claim), h.claim, Option.map_eq_none_iff]

theorem foldl {α : Type} (f : State → α → State) (h : ∀ s x, Quiet s (f s x)) (xs : List α) (s : State) :
    Quiet s (xs.foldl f s) := by
  induction xs generalizing s with
  | nil => exact .refl s
  | cons x xs ih => exact (h s x).trans (ih (f s x))

/-! ### Single writes -/

theorem setPort (s : State) (p : PortId) (x : Port) (profile : x.profile = (s.port p).profile)
    (state : x.state = (s.port p).state) : Quiet s (s.setPort p x) :=
  of_tables rfl rfl (fun q => by by_cases h : q = p <;> simp [h, profile, state]) rfl rfl

theorem send (s : State) (p : PortId) (r : Response) (restarts : Bool) : Quiet s (s.send p r restarts) :=
  .setPort s p _ rfl rfl

theorem eachPort (s : State) (f : Port → Port) (h : ∀ x, (f x).profile = x.profile ∧ (f x).state = x.state) :
    Quiet s (s.eachPort f) :=
  of_tables rfl rfl (fun q => by simp [h]) rfl rfl

theorem setTrunk (s : State) (t : TrunkId) (x : Trunk) : Quiet s (s.setTrunk t x) :=
  of_tables (by simp [State.settingsPart]) (by simp) (fun q => by simp) (by simp) (by simp)

theorem setQueue (s : State) (t : TrunkId) (q : List CommandEntry) : Quiet s (s.setQueue t q) := .setTrunk s t _

theorem setRefused (s : State) (t : TrunkId) (x : List Nat) : Quiet s (s.setRefused t x) :=
  of_tables (by simp [State.settingsPart]) (by simp) (fun q => by simp) (by simp) (by simp)

theorem await (s : State) (n : Nat) : Quiet s (s.await n) := of_tables rfl rfl (fun _ => ⟨rfl, rfl⟩) rfl rfl

theorem raise (s : State) (p : PortId) (f : FlagSet) : Quiet s (s.raise p f) := .setPort s p _ rfl rfl

theorem raiseAll (s : State) (f : FlagSet) : Quiet s (s.raiseAll f) := .eachPort s _ fun _ => ⟨rfl, rfl⟩

theorem raiseCandidate (s : State) : Quiet s s.raiseCandidate :=
  .eachPort s _ fun x => by split <;> exact ⟨rfl, rfl⟩

theorem raiseDispatch (s : State) : Quiet s s.raiseDispatch :=
  .eachPort s _ fun x => by split <;> exact ⟨rfl, rfl⟩

/-! ### Outcomes and queues -/

theorem addOutcome (s : State) (p : PortId) (l : Station) (item : Item) (value : Option Nat) (o : CommandEnd) :
    Quiet s (s.addOutcome p l item value o) := .setPort s p _ rfl rfl

theorem flagDrained (s : State) (p : PortId) : Quiet s (s.flagDrained p) := by
  unfold State.flagDrained
  split
  · exact .raise s p _
  · exact .refl s

theorem judgeDelivery (s : State) (p : PortId) (l : Station) (item : Item) (value : Option Nat) (o : CommandEnd) :
    Quiet s (s.judgeDelivery p l item value o) := by
  unfold State.judgeDelivery
  split
  · rename_i ov h
    split
    · refine ⟨rfl, rfl, fun _ => ⟨rfl, rfl⟩, fun k => ?_, fun k => ?_, fun _ => .refl _⟩ <;>
        by_cases hk : k = l <;> simp [hk, h, Override.claim]
    · exact .refl s
  · exact .refl s

/-- What an outcome makes of a PENDING entry is sound: only an ACTIVE entry counts recoveries. -/
theorem limiterOutcome (s : State) (l : Station) (value : Option Nat) (o : CommandEnd) :
    Quiet s (s.limiterOutcome l value o) := by
  unfold State.limiterOutcome
  split
  · rename_i cap h
    split
    · refine ⟨rfl, rfl, fun _ => ⟨rfl, rfl⟩, fun k => by simp, fun k => by simp, fun k => ?_⟩
      by_cases hk : k = l
      · subst hk
        refine ⟨fun hn => by simp [h] at hn, fun hs => ?_⟩
        have h0 : (s.limit k).recovery = 0 := by
          by_contra hr
          obtain ⟨c, -, hc⟩ := hs.2 hr
          simp [h] at hc
        cases o <;> simp [LimitEntry.after, LimitEntry.cleared, LimitEntry.Sound, h0]
      · simp [hk, LimitEntry.LeadsTo.refl]
    · exact .refl s
  all_goals exact .refl s

theorem deliver (s : State) (e : CommandEntry) (o : CommandEnd) : Quiet s (s.deliver e o) := by
  unfold State.deliver
  split
  · exact .refl s
  · exact .limiterOutcome s _ _ _
  · split
    · exact .flagDrained s _
    · exact ((Quiet.addOutcome s _ _ _ _ _).trans (.judgeDelivery _ _ _ _ _ _)).trans (.flagDrained _ _)

theorem displaced (s : State) (old : CommandEntry) (originator : Originator) : Quiet s (s.displaced old originator) := by
  unfold State.displaced
  split
  · exact .refl s
  · exact .deliver s _ _

theorem offerCommand {s t : State} {tr : TrunkId} {l : Station} {item : Item} {value : Option Nat} {originator : Originator}
    (h : s.offerCommand tr l item value originator = some t) : Quiet s t := by
  rcases s.offerCommand_cases tr l item value originator with ⟨i, old, -, -, k⟩ | ⟨-, ⟨-, k⟩ | ⟨-, k⟩⟩ <;> rw [k] at h
  · cases h; exact (Quiet.setQueue s tr _).trans (.displaced _ _ _)
  · cases h; exact .setQueue s tr _
  · cases h

theorem offerIfRoom (s : State) (t : TrunkId) (l : Station) (item : Item) (value : Option Nat) (originator : Originator) :
    Quiet s (s.offerIfRoom t l item value originator) := by
  unfold State.offerIfRoom
  cases h : s.offerCommand t l item value originator with
  | none => exact .refl s
  | some u => exact .offerCommand h

theorem dropEntry (s : State) (t : TrunkId) (e : CommandEntry) : Quiet s (s.dropEntry t e) :=
  (Quiet.setQueue s t _).trans (.deliver _ _ _)

theorem dropWaiting (s : State) (t : TrunkId) (l : Station) : Quiet s (s.dropWaiting t l) :=
  .foldl _ (fun s e => .dropEntry s t e) _ _

theorem setInFlight (s : State) (t : TrunkId) (e : CommandEntry) : Quiet s (s.setInFlight t e) := .setQueue s t _

theorem endInFlight (s : State) (t : TrunkId) (e : CommandEntry) (o : CommandEnd) : Quiet s (s.endInFlight t e o) :=
  (Quiet.setQueue s t _).trans (.deliver _ _ _)

theorem waitAgain (s : State) (t : TrunkId) (e : CommandEntry) : Quiet s (s.waitAgain t e) := by
  unfold State.waitAgain
  split
  · exact (Quiet.setQueue s t _).trans (.displaced _ _ _)
  · exact .setInFlight s t _

theorem chargeMiss (s : State) (t : TrunkId) (e : CommandEntry) : Quiet s (s.chargeMiss t e) := by
  unfold State.chargeMiss
  dsimp only
  split
  · exact .endInFlight s t _ _
  · split
    · exact .setInFlight s t _
    · exact .waitAgain s t _

theorem reportRelease (s : State) (l : Station) (ov : Override) : Quiet s (s.reportRelease l ov) :=
  (Quiet.addOutcome s _ _ _ _ _).trans (.flagDrained _ _)

theorem dropLimiterCap (s : State) (t : TrunkId) (l : Station) : Quiet s (s.dropLimiterCap t l) := by
  unfold State.dropLimiterCap
  split
  · exact .dropEntry s t _
  · exact .refl s

theorem releaseCap (s : State) (l : Station) : Quiet s (s.releaseCap l) := by
  unfold State.releaseCap
  split
  · exact .offerIfRoom s _ _ _ _ _
  · exact .offerIfRoom s _ _ _ _ _
  · exact .refl s
  · exact .refl s

theorem pollIfAttention (s : State) (l : Station) (status : StatusSet) : Quiet s (s.pollIfAttention l status) := by
  unfold State.pollIfAttention
  split
  · exact .offerIfRoom s _ _ _ _ _
  · exact .refl s

/-! ### Trunks -/

theorem enterStopped (s : State) (t : TrunkId) : Quiet s (s.enterStopped t) := (Quiet.setTrunk s t _).trans (.raiseAll _ _)

theorem clearExchange (s : State) (t : TrunkId) : Quiet s (s.clearExchange t) := .setTrunk s t _

theorem beginExchange (s : State) (t : TrunkId) (kind : ExchangeKind) (a : Nat) (request : List Byte) :
    Quiet s (s.beginExchange t kind a request) := .setTrunk s t _

theorem mismatch (s : State) (t : TrunkId) (k : EntryIndex) : Quiet s (s.mismatch t k) := by
  unfold State.mismatch
  dsimp only
  split
  · exact .setTrunk s t _
  · exact (Quiet.setTrunk s t _).trans (.raiseAll _ _)

theorem abandonCommand (s : State) (t : TrunkId) : Quiet s (s.abandonCommand t) := by
  unfold State.abandonCommand
  split
  · exact .refl s
  · split
    · exact .endInFlight s t _ _
    · exact .waitAgain s t _

theorem abandon (s : State) (t : TrunkId) : Quiet s (s.abandon t) := by
  unfold State.abandon
  split
  · exact .refl s
  · dsimp only
    split
    · exact (Quiet.abandonCommand s t).trans (.setTrunk _ t _)
    · exact .setTrunk s t _

theorem halt (s : State) (t : TrunkId) (kind : FaultKind) (frame : Option FrameKind) : Quiet s (s.halt t kind frame) :=
  ((Quiet.abandon s t).trans (.setTrunk _ t _)).trans (.raiseAll _ _)

theorem afterExchange (s : State) (t : TrunkId) (kind : ExchangeKind) (failed : Bool) :
    Quiet s (s.afterExchange t kind failed) := by
  unfold State.afterExchange
  split
  · exact .halt s t _ _
  · split
    · exact .enterStopped s t
    · exact .refl s

theorem scanSlot (s : State) (t : TrunkId) (k : EntryIndex) (l : Station) : Quiet s (s.scanSlot t k l) := by
  unfold State.scanSlot
  split
  · split
    · exact .mismatch s t k
    · exact .beginExchange s t _ _ _
  · exact .refl s

theorem headSlot (s : State) (t : TrunkId) (k : EntryIndex) (l : Station) : Quiet s (s.headSlot t k l) := by
  unfold State.headSlot
  split
  · dsimp only
    split
    · split
      · exact (Quiet.setTrunk s t _).trans (.beginExchange _ t _ _ _)
      · exact (Quiet.beginExchange s t _ _ _).trans (.mismatch _ t k)
    · exact .mismatch s t k
  · exact .refl s

theorem commandSlot (s : State) (t : TrunkId) (e : CommandEntry) : Quiet s (s.commandSlot t e) := by
  unfold State.commandSlot
  split
  · exact (Quiet.setQueue s t _).trans (.beginExchange _ t _ _ _)
  · exact .beginExchange s t _ _ _

theorem slotFrame (s : State) (t : TrunkId) (k : EntryIndex) (rule : SlotRule) : Quiet s (s.slotFrame t k rule) := by
  cases rule with
  | scan l => exact .scanSlot s t k l
  | twinHead l => exact .headSlot s t k l
  | cmdOrScan l =>
    unfold State.slotFrame
    dsimp only
    split
    · exact .commandSlot s t _
    · exact .scanSlot s t k l
  | cmdOrQuiet =>
    unfold State.slotFrame
    dsimp only
    split
    · exact .commandSlot s t _
    · exact .refl s
  | rollcall => exact .beginExchange s t _ _ _
  | twinTail => exact .refl s
  | quiet => exact .refl s

/-! ### Admission List -/

theorem removeBoundCandidates (s : State) (m : MapPart) : Quiet s (s.removeBoundCandidates m) := by
  unfold State.removeBoundCandidates
  dsimp only
  split
  · exact of_tables rfl rfl (fun _ => ⟨rfl, rfl⟩) rfl rfl
  · exact .refl s

theorem setCandidates (s : State) (cs : List Candidate) (b : Bool) : Quiet s { s with candidates := cs, overflow := b } :=
  of_tables rfl rfl (fun _ => ⟨rfl, rfl⟩) rfl rfl

theorem admissionAnswer (answer : Nat → Answer) (t : TrunkId) (s : State) (address : Nat) :
    Quiet s (State.admissionAnswer answer t s address) := by
  unfold State.admissionAnswer
  split
  · exact .refl s
  · split
    · split
      · exact (Quiet.setCandidates s _ _).trans (.raiseCandidate _)
      · exact .setCandidates s _ _
    · split
      · split
        · exact (Quiet.setCandidates s _ _).trans (.raiseCandidate _)
        · split
          · exact .refl s
          · exact (Quiet.setCandidates s _ _).trans (.raiseCandidate _)
      · exact .refl s

/-! ### Requests and dispatches -/

theorem take {s : State} {p : PortId} {tag code : Nat} {gate : State → PortId → Option ResponseCode} {restarts : Bool}
    {f : State → Carried} (h : ∀ u, Quiet u (f u).1) : Quiet s (s.take p tag code gate restarts f) :=
  State.take_keeps (P := Quiet s) (fun u x h1 h2 h => h.trans (.setPort u p x h1 h2)) (fun u _ hu => hu.trans (h u)) (.refl s)

theorem nextResponse (s : State) (p : PortId) : Quiet s (s.nextResponse p) := by
  unfold State.nextResponse
  split
  · refine Quiet.trans ?_ (.send _ p _ _)
    exact .setPort s p _ rfl rfl
  · exact .setPort s p _ rfl rfl

theorem publish (s : State) (r : Record) : Quiet s (s.publish r) := by
  refine Quiet.trans ?_ (.raiseDispatch _)
  exact of_tables rfl rfl (fun _ => ⟨rfl, rfl⟩) rfl rfl

end Quiet

end Sys2Proof.Machine
end

section
namespace Sys2Proof.Machine

/-! ## The quiet commands

The commands that leave settings, offers, the states of ports, and the tables but for what outcomes do to them. -/

/-- The command is one of the quiet ones: the reads, the requests about a port's flags and windows, the trunk requests, CANCEL,
the Admission List's requests, and the events of lines and slots. -/
def isQuiet : Instr → Bool
  | .requestDiscarded _ | .unknownRequest _ _ _ | .portByteReceived _ _ | .trunkByteReceived _ _ _ => true
  | .status _ _ | .readDispatch _ _ _ | .readImage _ _ _ _ _ | .readStation _ _ _ | .readQueue _ _ _ => true
  | .readCandidates _ _ | .readOutcomes _ _ | .readParam _ _ _ => true
  | .setWindow _ _ _ | .ack _ _ _ | .setMask _ _ _ | .setNotify _ _ _ | .fallbackClear _ _ | .restart _ _ => true
  | .trunkStart _ _ _ | .trunkStop _ _ _ | .trunkResume _ _ _ | .cancel _ _ _ _ | .reject _ _ _ _ | .forget _ _ _ _ => true
  | .slotStart _ | .requestSent _ | .txStuck _ | .echoLost _ | .lineHeldSet _ | .lineHeldCleared _ => true
  | _ => false

namespace Quiet

theorem answerCode (s : State) (c : ResponseCode) : Quiet s (Machine.answerCode s c).1 := .refl s

theorem answerRecord (s : State) (r : Option Record) : Quiet s (Machine.answerRecord s r).1 := by cases r <;> exact .refl s

theorem onTrunk {rule : State → TrunkId → Carried} (h : ∀ s t, Quiet s (rule s t).1) (s : State) (trunk : Nat) :
    Quiet s (Machine.onTrunk s trunk rule).1 := by
  unfold Machine.onTrunk
  split
  · exact h s _
  · exact .refl s

theorem carryStart (s : State) (t : TrunkId) : Quiet s (s.carryStart t).1 := by
  unfold State.carryStart
  split
  · split
    · exact .refl s
    · exact .setTrunk s t _
  all_goals exact .refl s

theorem carryStop (s : State) (t : TrunkId) : Quiet s (s.carryStop t).1 := by
  unfold State.carryStop
  split
  · split
    · exact .setTrunk s t _
    · exact .enterStopped s t
  · exact .enterStopped s t
  all_goals exact .refl s

theorem carryResume (s : State) (t : TrunkId) : Quiet s (s.carryResume t).1 := by
  unfold State.carryResume
  split
  · split
    · exact .refl s
    · exact .setTrunk s t _
  all_goals exact .refl s

theorem carryCancel (s : State) (p : PortId) (index item : Nat) : Quiet s (s.carryCancel p index item).1 := by
  unfold State.carryCancel
  split
  · exact .refl s
  · split
    · exact .refl s
    · split
      · exact .refl s
      · dsimp only
        split
        · split
          · exact .refl s
          · exact .dropEntry s _ _
        · split <;> exact .refl s

theorem execReadDispatch (p : PortId) (tag selector : Nat) (s : State) :
    Gives (Quiet s) (execReadDispatch p tag selector s) := by
  refine take fun u => ?_
  split
  · exact .answerRecord u _
  · exact .answerRecord u _
  · exact .refl u

theorem execReject (p : PortId) (tag trunk address : Nat) (s : State) : Gives (Quiet s) (execReject p tag trunk address s) := by
  refine take fun u => ?_
  split
  · split
    · exact .refl u
    · split
      · exact .refl u
      · exact (Quiet.setCandidates u _ _).trans (.setRefused _ _ _)
  · exact .refl u

theorem execForget (p : PortId) (tag trunk address : Nat) (s : State) : Gives (Quiet s) (execForget p tag trunk address s) := by
  refine take fun u => ?_
  split
  · split
    · exact .refl u
    · split
      · exact .refl u
      · exact .setRefused u _ _
  · exact .refl u

theorem execFallbackClear (p : PortId) (tag : Nat) (s : State) : Gives (Quiet s) (execFallbackClear p tag s) := by
  refine take fun u => ?_
  split
  · unfold answerOk
    dsimp only
    split
    · exact of_tables rfl rfl (fun _ => ⟨rfl, rfl⟩) rfl rfl
    · exact .refl u
  · exact .refl u

theorem execSlotStart (t : TrunkId) (s : State) : Gives (Quiet s) (execSlotStart t s) := by
  unfold Machine.execSlotStart
  split
  · dsimp only
    split
    · exact ((Quiet.await s _).trans (.setTrunk _ t _)).trans (.slotFrame _ t _ _)
    · exact ((Quiet.await s _).trans (.enterStopped _ t)).trans (.setTrunk _ t _)
  · exact .refl s

theorem execRequestSent (t : TrunkId) (s : State) : Gives (Quiet s) (execRequestSent t s) := by
  unfold Machine.execRequestSent
  split
  · split
    · exact (Quiet.await s _).trans (.setTrunk _ t _)
    · exact .refl s
  · exact .refl s

theorem execTxStuck (t : TrunkId) (s : State) : Gives (Quiet s) (execTxStuck t s) := by
  unfold Machine.execTxStuck
  split
  · split
    · exact (Quiet.setTrunk s t _).trans (.raiseAll _ _)
    all_goals exact .halt s t _ _
  · exact .refl s

theorem execEchoLost (t : TrunkId) (s : State) : Gives (Quiet s) (execEchoLost t s) := by
  unfold Machine.execEchoLost
  split
  · exact .halt s t _ _
  · exact .refl s

theorem execLineHeldSet (t : TrunkId) (s : State) : Gives (Quiet s) (execLineHeldSet t s) := by
  unfold Machine.execLineHeldSet
  split
  · exact (Quiet.setTrunk s t _).trans (.raiseAll _ _)
  · exact .refl s

theorem execLineHeldCleared (t : TrunkId) (s : State) : Gives (Quiet s) (execLineHeldCleared t s) := by
  unfold Machine.execLineHeldCleared
  split
  · exact (Quiet.setTrunk s t _).trans (.raiseAll _ _)
  · exact .refl s

theorem execRequestDiscarded (p : PortId) (s : State) : Gives (Quiet s) (execRequestDiscarded p s) := by
  unfold Machine.execRequestDiscarded
  split
  · exact .setPort s p _ rfl rfl
  · exact .refl s

theorem execPortByteReceived (p : PortId) (b : Byte) (s : State) : Gives (Quiet s) (execPortByteReceived p b s) := by
  unfold Machine.execPortByteReceived
  split
  · exact (Quiet.await s _).trans (.setPort _ p _ rfl rfl)
  · exact .refl s

theorem execTrunkByteReceived (t : TrunkId) (b : Byte) (ok : Bool) (s : State) :
    Gives (Quiet s) (execTrunkByteReceived t b ok s) := by
  unfold Machine.execTrunkByteReceived
  split
  · split
    · split
      · exact (Quiet.await s _).trans (.setTrunk _ t _)
      · exact .refl s
    · exact .refl s
  · exact .refl s

end Quiet

theorem exec_quiet {i : Instr} (h : isQuiet i = true) (s : State) : Gives (Quiet s) (exec i s) := by
  cases i with
  | requestDiscarded p => exact Quiet.execRequestDiscarded p s
  | unknownRequest p tag code => exact Quiet.take fun u => .refl u
  | portByteReceived p b => exact Quiet.execPortByteReceived p b s
  | trunkByteReceived t b ok => exact Quiet.execTrunkByteReceived t b ok s
  | status p tag => exact Quiet.take fun u => .refl u
  | readDispatch p tag selector => exact Quiet.execReadDispatch p tag selector s
  | readImage p tag first count step => exact Quiet.take fun u => by split <;> exact .refl u
  | readStation p tag index => exact Quiet.take fun u => by split <;> exact .refl u
  | readQueue p tag trunk => exact Quiet.take fun u => by split <;> exact .refl u
  | readCandidates p tag => exact Quiet.take fun u => .refl u
  | readOutcomes p tag => exact Quiet.take fun u => .setPort u p _ rfl rfl
  | readParam p tag identifier => exact Quiet.take fun u => by split <;> exact .refl u
  | setWindow p tag seconds => exact Quiet.take fun u => .setPort u p _ rfl rfl
  | ack p tag flags => exact Quiet.take fun u => .setPort u p _ rfl rfl
  | setMask p tag flags => exact Quiet.take fun u => .setPort u p _ rfl rfl
  | setNotify p tag mode =>
    exact Quiet.take fun u => by
      split
      · exact .setPort u p _ rfl rfl
      · exact .refl u
  | fallbackClear p tag => exact Quiet.execFallbackClear p tag s
  | restart p tag => exact Quiet.take fun u => .refl u
  | trunkStart p tag trunk => exact Quiet.take fun u => .onTrunk .carryStart u trunk
  | trunkStop p tag trunk => exact Quiet.take fun u => .onTrunk .carryStop u trunk
  | trunkResume p tag trunk => exact Quiet.take fun u => .onTrunk .carryResume u trunk
  | cancel p tag index item => exact Quiet.take fun u => .carryCancel u p index item
  | reject p tag trunk address => exact Quiet.execReject p tag trunk address s
  | forget p tag trunk address => exact Quiet.execForget p tag trunk address s
  | slotStart t => exact Quiet.execSlotStart t s
  | requestSent t => exact Quiet.execRequestSent t s
  | txStuck t => exact Quiet.execTxStuck t s
  | echoLost t => exact Quiet.execEchoLost t s
  | lineHeldSet t => exact Quiet.execLineHeldSet t s
  | lineHeldCleared t => exact Quiet.execLineHeldCleared t s
  | _ => cases h

/-- Idling is quiet: it lets a tick pass, or puts an event into the queue. -/
theorem Quiet.idle (s : State) : Quiet s s.idle := by
  unfold State.idle
  split <;> [split; skip; skip] <;> exact of_tables rfl rfl (fun _ => ⟨rfl, rfl⟩) rfl rfl

/-- A property that quiet changes and every command keep is kept by every step. -/
theorem step_keeps {P : State → Prop} (quiet : ∀ {s t}, Quiet s t → P s → P t) (exec : ∀ i s, P s → Gives P (exec i s))
    {s t : State} (hs : P s) (h : step s = .next t) : P t := by
  unfold step at h
  split at h
  · rename_i c cs _
    have hq : Quiet s { s with pending := cs } := .of_tables rfl rfl (fun _ => ⟨rfl, rfl⟩) rfl rfl
    exact (exec c _ (quiet hq hs)).of_eq h
  · cases h; exact quiet (.idle s) hs

end Sys2Proof.Machine
end

/-! # Proofs: the laws of the settings -/

section
namespace Sys2Proof.Machine

/-! ## Operations that leave the settings alone -/

theorem State.SettingsSound.of_part {s t : State} (h : t.settingsPart = s.settingsPart) (k : s.SettingsSound) :
    t.SettingsSound := by
  obtain ⟨hwork, hcopy, hsaving, hsetpoint⟩ : t.work = s.work ∧ t.copy = s.copy ∧ t.saving = s.saving ∧ t.setpoint = s.setpoint := by
    simpa [State.settingsPart] using h
  unfold State.SettingsSound at k ⊢
  rwa [hwork, hcopy, hsaving, hsetpoint, State.params, hwork]

theorem WorkFrame.settingsPart {s t : State} (h : WorkFrame s t) : t.settingsPart = s.settingsPart := by
  rw [h.1]; rfl

@[simp] theorem settingsPart_setPort (s : State) (p : PortId) (x : Port) : (s.setPort p x).settingsPart = s.settingsPart := rfl
@[simp] theorem settingsPart_eachPort (s : State) (f : Port → Port) : (s.eachPort f).settingsPart = s.settingsPart := rfl
@[simp] theorem settingsPart_setImage (s : State) (l : Station) (x : Image) : (s.setImage l x).settingsPart = s.settingsPart := rfl
@[simp] theorem settingsPart_setLimit (s : State) (l : Station) (x : LimitEntry) :
    (s.setLimit l x).settingsPart = s.settingsPart := rfl
@[simp] theorem settingsPart_setOffer (s : State) (p : PortId) (x : Option Offer) :
    (s.setOffer p x).settingsPart = s.settingsPart := rfl
@[simp] theorem settingsPart_await (s : State) (n : Nat) : (s.await n).settingsPart = s.settingsPart := rfl
@[simp] theorem settingsPart_setTrunk (s : State) (t : TrunkId) (x : Trunk) : (s.setTrunk t x).settingsPart = s.settingsPart :=
  (Quiet.setTrunk s t x).settings
@[simp] theorem settingsPart_offerIfRoom (s : State) (t : TrunkId) (l : Station) (item : Item) (value : Option Nat)
    (o : Originator) : (s.offerIfRoom t l item value o).settingsPart = s.settingsPart := (Quiet.offerIfRoom s t l item value o).settings
@[simp] theorem settingsPart_dropWaiting (s : State) (t : TrunkId) (l : Station) :
    (s.dropWaiting t l).settingsPart = s.settingsPart := (Quiet.dropWaiting s t l).settings
@[simp] theorem settingsPart_afterExchange (s : State) (t : TrunkId) (k : ExchangeKind) (b : Bool) :
    (s.afterExchange t k b).settingsPart = s.settingsPart := (Quiet.afterExchange s t k b).settings

theorem settingsPart_foldl {α : Type} (f : State → α → State) (h : ∀ s x, (f s x).settingsPart = s.settingsPart) (xs : List α)
    (s : State) : (xs.foldl f s).settingsPart = s.settingsPart := by
  induction xs generalizing s with
  | nil => rfl
  | cons x xs ih => rw [List.foldl_cons, ih, h]

@[simp] theorem settingsPart_enterLost (s : State) (l : Station) : (s.enterLost l).settingsPart = s.settingsPart := by
  simp [State.enterLost]

@[simp] theorem settingsPart_tableResult (s : State) (stamp : Stamp) (r : StationResult) :
    (s.tableResult stamp r).settingsPart = s.settingsPart := by
  unfold State.tableResult
  split
  · cases r with
    | good r status =>
      dsimp only [State.goodReply]
      rw [(Quiet.pollIfAttention _ _ _).settings]
      split <;> simp
    | sensorFault status => exact (Quiet.pollIfAttention _ _ _).settings
    | miss =>
      dsimp only [State.stationMiss]
      split <;> simp
  · rfl

@[simp] theorem settingsPart_commandResult (s : State) (t : TrunkId) (r : Option CommandReply) :
    (s.commandResult t r).settingsPart = s.settingsPart := by
  have store : ∀ e status, (s.storePoll e status).settingsPart = s.settingsPart := fun e status => by
    unfold State.storePoll
    split <;> [split; skip; skip] <;> simp
  unfold State.commandResult
  split
  · rfl
  · split
    · exact (Quiet.endInFlight s t _ _).settings
    · unfold State.commandTaken
      split
      · exact (Quiet.chargeMiss s t _).settings
      · split
        · split
          · exact (Quiet.setInFlight s t _).settings
          · exact (Quiet.endInFlight s t _ _).settings
        · exact (Quiet.endInFlight _ t _ _).settings.trans (store _ _)

@[simp] theorem settingsPart_handMiss (s : State) (t : TrunkId) (k : ExchangeKind) :
    (s.handMiss t k).settingsPart = s.settingsPart := by
  cases k <;> simp [State.handMiss]

@[simp] theorem settingsPart_handReply (s : State) (t : TrunkId) (x : Exchange) (f : HeardFrame) :
    (s.handReply t x f).1.settingsPart = s.settingsPart := by
  unfold State.handReply
  split <;> simp

@[simp] theorem settingsPart_rollcallAnswers (s : State) (t : TrunkId) (answer : Nat → Answer) :
    (s.rollcallAnswers t answer).settingsPart = s.settingsPart := by
  have bound : ∀ u l, (State.boundAnswers answer t u l).settingsPart = u.settingsPart := fun u l => by
    unfold State.boundAnswers
    dsimp only
    split <;> [split; skip] <;> simp [State.offerPoll]
  exact (Quiet.foldl _ (Quiet.admissionAnswer answer t) _ _).settings.trans (settingsPart_foldl _ bound _ _)

@[simp] theorem settingsPart_leaveLive (s : State) (p : PortId) : (s.leaveLive p).settingsPart = s.settingsPart :=
  (WorkFrame.releaseOwned _ p).settingsPart

@[simp] theorem settingsPart_fail (s : State) (p : PortId) : (s.fail p).settingsPart = s.settingsPart := by
  simp only [State.fail, State.raise_eq, settingsPart_setPort]
  split <;> simp

theorem settingsPart_helloTaken (s : State) (p : PortId) : (s.helloTaken p).settingsPart = s.settingsPart := by
  unfold State.helloTaken; split <;> simp

theorem settingsPart_refreshTaken (s : State) (p : PortId) : (s.refreshTaken p).settingsPart = s.settingsPart := by
  unfold State.refreshTaken
  split <;> [skip; skip; (split <;> [split; skip]); skip; skip] <;> simp [State.enterLive]

theorem settingsPart_carryOverride (s : State) (p : PortId) (index item value : Nat) :
    (s.carryOverride p index item value).1.settingsPart = s.settingsPart := by
  unfold State.carryOverride
  split
  · rfl
  · split
    · rfl
    · split
      · rfl
      · split
        · rfl
        · split
          · rfl
          · dsimp only [answerOk]
            split
            · exact (WorkFrame.placeOverride s _ p _ _).settingsPart
            · exact (WorkFrame.replaceOverride s _ p _ _ _).settingsPart

theorem settingsPart_carryRelease (s : State) (p : PortId) (index : Nat) :
    (s.carryRelease p index).1.settingsPart = s.settingsPart := by
  unfold State.carryRelease
  split
  · rfl
  · split
    · rfl
    · dsimp only
      split
      · rfl
      · split
        · rfl
        · simp [answerOk]

@[simp] theorem settingsPart_rejudge (s : State) : s.rejudge.settingsPart = s.settingsPart := by
  have live : ∀ u l, (State.rejudgeLive u l).settingsPart = u.settingsPart := fun u l => by
    unfold State.rejudgeLive; split <;> simp [State.enterStale]
  have stale : ∀ u l, (State.rejudgeStale u l).settingsPart = u.settingsPart := fun u l => by
    unfold State.rejudgeStale; split <;> simp
  exact (settingsPart_foldl _ stale _ _).trans (settingsPart_foldl _ live _ _)

/-! ## Events that leave the settings alone -/

/-- The command leaves the settings as they are. -/
abbrev LeavesSettings (s : State) (o : Host.Outcome State Fault Refusal) : Prop := Gives (fun t => t.settingsPart = s.settingsPart) o

theorem execReplyTimeout_settings (t : TrunkId) (s : State) : LeavesSettings s (execReplyTimeout t s) := by
  unfold execReplyTimeout
  split
  · split
    · dsimp only
      split
      · simp [Gives, State.clearExchange]
      · rfl
    · rfl
  · rfl

theorem execReplyClosed_settings (t : TrunkId) (s : State) : LeavesSettings s (execReplyClosed t s) := by
  unfold execReplyClosed
  split
  · split
    · dsimp only
      split
      · split
        · simp [Gives, State.clearExchange]
        · rfl
      · rfl
    · rfl
  · rfl

theorem execPairExchangeEnd_settings (t : TrunkId) (s : State) : LeavesSettings s (execPairExchangeEnd t s) := by
  unfold execPairExchangeEnd
  split
  · split
    · split
      · simp [Gives, State.clearExchange]
      · rfl
    · rfl
  · rfl

theorem execRollcallEnd_settings (t : TrunkId) (s : State) : LeavesSettings s (execRollcallEnd t s) := by
  unfold execRollcallEnd
  split
  · split
    · split
      · refine (settingsPart_afterExchange _ _ _ _).trans ?_
        split <;> simp [State.clearExchange]
      · rfl
    · rfl
  · rfl

theorem execWithheldExchangeEnd_settings (t : TrunkId) (s : State) : LeavesSettings s (execWithheldExchangeEnd t s) := by
  unfold execWithheldExchangeEnd
  split
  · split
    · simp [Gives, State.clearExchange]
    · rfl
  · rfl

theorem execLongWindowExpiry_settings (p : PortId) (s : State) : LeavesSettings s (execLongWindowExpiry p s) := by
  unfold execLongWindowExpiry
  split <;> [split; split; skip] <;> simp [Gives]

theorem execRefreshWindowExpiry_settings (p : PortId) (s : State) : LeavesSettings s (execRefreshWindowExpiry p s) := by
  unfold execRefreshWindowExpiry
  split <;> [split; skip] <;> simp [Gives]

theorem execLimiterExpiry_settings (s : State) : LeavesSettings s (execLimiterExpiry s) := by
  unfold execLimiterExpiry
  split
  · dsimp only [Gives]
    split
    · exact (WorkFrame.evaluate _).settingsPart
    all_goals rfl
  · rfl

theorem execStaleAgeExpiry_settings (l : Station) (s : State) : LeavesSettings s (execStaleAgeExpiry l s) := by
  unfold execStaleAgeExpiry
  split <;> [split; skip] <;> simp [Gives, State.enterStale]

theorem execHoldLimitExpiry_settings (l : Station) (s : State) : LeavesSettings s (execHoldLimitExpiry l s) := by
  unfold execHoldLimitExpiry
  split <;> [split; skip] <;> simp [Gives]

/-! ## Writes of the settings -/

theorem Settings.default_sound : Settings.default.Sound := by
  have hmap : ∀ l : Station, Settings.default.maps.get l = MapPart.default := fun l => by
    simp [Settings.default, Vector.get_eq_getElem]
  refine ⟨by decide, fun l => ?_, fun k l _ _ a ha => ?_, fun i => .inl ?_, fun i => .inl ?_⟩
  · rw [hmap]; decide
  · rw [hmap] at ha; simp [MapPart.default, MapPart.addresses] at ha
  all_goals simp [Settings.default, Vector.get_eq_getElem, SlotEntry.default]

theorem Params.Sound.startSetpoint {x : Params} (h : x.Sound) :
    x.sMin ≤ x.startSetpoint ∧ x.startSetpoint ≤ x.sMax :=
  clampNat_bounds h.2.2.2.2.2.2.2.1.2.1 _

theorem rateApplied_mem (v : Nat) :
    rateApplied v = 9600 ∨ rateApplied v = 19200 ∨ rateApplied v = 38400 ∨ rateApplied v = 57600 := by
  unfold rateApplied; split <;> [skip; (split <;> [skip; split])] <;> simp

/-- A written parameter is clamped into its range, and the bounds between parameters are kept (R152). -/
theorem Params.Sound.write {x y : Params} {identifier v : Nat} (h : x.Sound) (k : x.write identifier v = some y) : y.Sound := by
  obtain ⟨h1, h2, h3, h4, h5, h6, h7, h8, h9, h10, h11, h12, h13, h14, h15, h16, h17⟩ := h
  have within : ∀ {a b : Nat}, a ≤ b → a ≤ clampNat v a b ∧ clampNat v a b ≤ b := fun h => clampNat_bounds h v
  have age := within (show 5 ≤ 120 by omega)
  have band := within (show 500 ≤ 6000 by omega)
  have limit := within (h4.1.trans h4.2)
  unfold Params.write at k
  split at k <;> cases k <;> refine ⟨?_, ?_, ?_, ?_, ?_, ?_, ?_, ?_, ?_, ?_, ?_, ?_, ?_, ?_, ?_, ?_, ?_⟩ <;>
    first
    | assumption
    | exact within (by omega)
    | exact Nat.min_le_right ..
    | exact rateApplied_mem v
    | (dsimp only; omega)

theorem SlotRule.minimum_le (r : SlotRule) : r.minimum ≤ 60000 := by cases r <;> simp [SlotRule.minimum]

theorem slotLength_sound (r : SlotRule) (length : Nat) : SlotEntry.Sound { rule := r, length := slotLength r length } := by
  unfold slotLength SlotEntry.Sound
  split
  · exact .inl rfl
  · exact .inr (clampNat_bounds r.minimum_le _)

/-- A map part that binds an address which may be bound, with its quantities clamped, is sound (R2). -/
theorem MapPart.sound_of_allowed {m : MapPart} (hqc : m.qc ≤ 8000) (hdp : m.dpmin ≤ 6000)
    (h : addressAllowed m.address m.twin = true) : m.Sound := by
  refine ⟨hqc, hdp, fun _ => ?_⟩
  simp only [addressAllowed, isAddress, isTwinAddress, Bool.and_eq_true, Bool.or_eq_true, decide_eq_true_eq,
    Bool.not_eq_true'] at h
  obtain ⟨⟨h1, h2⟩, h3⟩ := h
  refine ⟨⟨h1, h2⟩, fun ht => ?_⟩
  simp only [ht, Bool.true_eq_false, false_or] at h3
  omega

theorem State.isUnique_iff (s : State) (l : Station) (m : MapPart) :
    s.isUnique l m = true ↔ ∀ k, k ≠ l → (s.map k).trunk = m.trunk → ∀ a ∈ (s.map k).addresses, a ∉ m.addresses := by
  simp only [State.isUnique, List.all_eq_true, Bool.or_eq_true, beq_iff_eq, bne_iff_ne, ne_eq, Bool.not_eq_true',
    List.contains_eq_mem, decide_eq_false_iff_not]
  refine ⟨fun h k hk ht a ha => ?_, fun h k _ => ?_⟩
  · rcases h k (mem_stations k) with (h | h) | h
    · exact absurd h hk
    · exact absurd ht h
    · exact h a ha
  · by_cases hk : k = l
    · exact .inl (.inl hk)
    · by_cases ht : (s.map k).trunk = m.trunk
      · exact .inr (h k hk ht)
      · exact .inl (.inr ht)

/-- A sound map part that shares no address keeps the settings sound, whatever else is written with it. -/
theorem State.SettingsSound.setMap {s t : State} {l : Station} {m : MapPart} (hs : s.SettingsSound) (hm : m.Sound)
    (hu : m.enabled = true → s.isUnique l m = true) (h : t.settingsPart = (s.setMap l m).settingsPart) : t.SettingsSound := by
  refine .of_part h ?_
  obtain ⟨⟨hparams, hmaps, hunique, hA, hB⟩, hcopy, hsaving, hband⟩ := hs
  have hget : ∀ k, (s.setMap l m).work.maps.get k = if k = l then m else s.map k := fun k => State.map_setMap s l k m
  have hfree : ∀ k, k ≠ l → (s.map k).trunk = m.trunk → ∀ a ∈ (s.map k).addresses, a ∉ m.addresses := by
    cases he : m.enabled with
    | true => exact (s.isUnique_iff l m).1 (hu he)
    | false => intro k _ _ a _; simp [MapPart.addresses, he]
  refine ⟨⟨hparams, fun k => ?_, fun k j hkj ht a ha => ?_, hA, hB⟩, hcopy, hsaving, hband⟩
  · rw [hget]; split
    · exact hm
    · exact hmaps k
  · rw [hget] at ht ha ⊢
    rw [hget] at ht
    by_cases hk : k = l <;> by_cases hj : j = l <;> simp only [hk, hj, if_true, if_false] at ht ha ⊢
    · exact absurd (hk.trans hj.symm) hkj
    · exact fun hb => hfree j hj ht.symm a hb ha
    · exact hfree k hk ht a ha
    · exact hunique k j hkj ht a ha

theorem State.settingsPart_bindingChange (s : State) (l : Station) (m : MapPart) :
    (s.bindingChange l m).settingsPart = (s.setMap l m).settingsPart := by
  have h : ∀ t u, ((State.releaseByBinding u t l).dropWaiting t l).settingsPart = u.settingsPart := fun t u =>
    ((WorkFrame.releaseByBinding u t l).trans (.dropWaiting _ t l)).settingsPart
  unfold State.bindingChange
  dsimp only
  split <;> simp [h]

theorem State.settingsPart_writeMap (s : State) (l : Station) (m : MapPart) :
    (s.writeMap l m).settingsPart = (s.setMap l m).settingsPart := by
  unfold State.writeMap
  rw [(Quiet.removeBoundCandidates _ m).settings]
  split
  · exact s.settingsPart_bindingChange l m
  · rfl

theorem State.SettingsSound.carryWriteMap {s : State} (h : s.SettingsSound) (index flags trunk address qc dpmin mark : Nat) :
    (s.carryWriteMap index flags trunk address qc dpmin mark).1.SettingsSound := by
  unfold State.carryWriteMap
  split
  · rename_i l t _ _
    dsimp only
    split
    · exact h
    · rename_i ha
      split
      · exact h
      · rename_i hu
        have ha := Bool.eq_true_of_not_eq_false ha
        refine h.setMap (MapPart.sound_of_allowed (Nat.min_le_right ..) (Nat.min_le_right ..) ha) (fun he => ?_)
          (s.settingsPart_writeMap l _)
        simpa [he] using hu
  · exact h

theorem State.SettingsSound.carryAdmit {s : State} (h : s.SettingsSound) (trunk address index twin qc : Nat) :
    (s.carryAdmit trunk address index twin qc).1.SettingsSound := by
  unfold State.carryAdmit
  split
  · rename_i l t _ _
    dsimp only
    split
    · exact h
    · split
      · exact h
      · split
        · exact h
        · rename_i ha
          split
          · exact h
          · split
            · exact h
            · rename_i hu
              have hm : (admittedPart t address (twin ≠ 0) qc).Sound :=
                MapPart.sound_of_allowed (Nat.min_le_right ..) (Nat.zero_le _) (Bool.eq_true_of_not_eq_false ha)
              refine h.setMap hm (fun _ => Bool.eq_true_of_not_eq_false hu) ?_
              exact (Quiet.removeBoundCandidates _ _).settings.trans (s.settingsPart_bindingChange l _)
  · exact h

theorem State.SettingsSound.carryWriteSlot {s : State} (h : s.SettingsSound) (trunk entry rule index length : Nat) :
    (s.carryWriteSlot trunk entry rule index length).1.SettingsSound := by
  unfold State.carryWriteSlot
  split
  · rename_i t i _ _
    split
    · exact h
    · exact h
    · rename_i r _
      obtain ⟨⟨hparams, hmaps, hunique, hA, hB⟩, hcopy, hsaving, hband⟩ := h
      have hr := slotLength_sound r length
      have set : ∀ sched : Schedule, (∀ j : EntryIndex, (sched.get j).Sound) → ∀ j : EntryIndex,
          ((sched.set i.val { rule := r, length := slotLength r length } i.isLt).get j).Sound := fun sched hs j => by
        rw [vector_get_set]
        split
        · exact hr
        · exact hs j
      cases t with
      | a => exact ⟨⟨hparams, hmaps, hunique, set _ hA, hB⟩, hcopy, hsaving, hband⟩
      | b => exact ⟨⟨hparams, hmaps, hunique, hA, set _ hB⟩, hcopy, hsaving, hband⟩
  · exact h

theorem Params.write_band {x y : Params} {identifier v : Nat} (h : x.write identifier v = some y) (h8 : identifier ≠ 0x08)
    (h9 : identifier ≠ 0x09) : y.sMin = x.sMin ∧ y.sMax = x.sMax := by
  unfold Params.write at h
  split at h <;> cases h <;> simp_all

theorem State.SettingsSound.carryWriteParam {s : State} (h : s.SettingsSound) (identifier value : Nat) :
    (s.carryWriteParam identifier value).1.SettingsSound := by
  unfold State.carryWriteParam
  split
  · rename_i y hy
    obtain ⟨⟨hparams, hmaps, hunique, hA, hB⟩, hcopy, hsaving, hband⟩ := h
    have hyS : y.Sound := hparams.write hy
    have band : identifier = 0x08 ∨ identifier = 0x09 → ((s.setParams y).clampSetpoint).SettingsSound := fun _ =>
      ⟨⟨hyS, hmaps, hunique, hA, hB⟩, hcopy, hsaving, clampNat_bounds hyS.2.2.2.2.2.2.2.1.2.1 _⟩
    have other : identifier ≠ 0x08 → identifier ≠ 0x09 → (s.setParams y).SettingsSound := fun h8 h9 => by
      refine ⟨⟨hyS, hmaps, hunique, hA, hB⟩, hcopy, hsaving, ?_⟩
      obtain ⟨hmin, hmax⟩ := Params.write_band hy h8 h9
      change y.sMin ≤ s.setpoint ∧ s.setpoint ≤ y.sMax
      rwa [hmin, hmax]
    dsimp only [answerOk, State.afterParam]
    split
    · exact .of_part (settingsPart_rejudge _) (other (by decide) (by decide))
    · exact .of_part (settingsPart_rejudge _) (other (by decide) (by decide))
    · exact band (.inl rfl)
    · exact band (.inr rfl)
    · rename_i h8 h9
      exact other h8 h9
  · exact h

/-! ## Resets and dispatches -/

theorem State.SettingsSound.startUp {s : State} (h : s.SettingsSound) (strap : PortId → Profile) :
    (s.startUp strap).SettingsSound := by
  obtain ⟨-, hcopy, -, -⟩ := h
  have hwork : (s.startUp strap).work.Sound := by
    unfold State.startUp
    dsimp only
    split
    · exact hcopy
    · exact Settings.default_sound
  exact ⟨hwork, hcopy, nofun, hwork.1.startSetpoint⟩

theorem State.SettingsSound.networkReset {s : State} (h : s.SettingsSound) : s.networkReset.SettingsSound := by
  obtain ⟨hwork, hcopy, hsaving, -⟩ := h
  unfold State.networkReset
  dsimp only
  split <;> exact ⟨hwork, hcopy, hsaving, hwork.1.startSetpoint⟩

theorem State.SettingsSound.resetSetpoint {s : State} (h : s.SettingsSound) :
    s.params.sMin ≤ s.resetSetpoint ∧ s.resetSetpoint ≤ s.params.sMax := by
  obtain ⟨hwork, -, -, hband⟩ := h
  unfold State.resetSetpoint
  dsimp only
  split
  · exact hband
  · exact clampNat_bounds hwork.1.2.2.2.2.2.2.2.1.2.1 _

theorem State.SettingsSound.dispatchOnce {s : State} (h : s.SettingsSound) : s.dispatchOnce.SettingsSound := by
  unfold State.dispatchOnce
  split
  · exact h
  · refine .of_part (Quiet.publish _ _).settings ?_
    exact ⟨h.1, h.2.1, h.2.2.1, h.resetSetpoint⟩
  · refine .of_part (Quiet.publish _ _).settings ?_
    split
    · exact h
    · refine .of_part (WorkFrame.fallbackRelease _).settingsPart ?_
      exact h

/-! ## Every step -/

theorem exec_keeps_settingsSound (i : Instr) (s : State) (h : s.SettingsSound) : Gives State.SettingsSound (exec i s) := by
  by_cases quiet : isQuiet i = true
  · exact (exec_quiet quiet s).mono fun t k => .of_part k.settings h
  have leaves : ∀ {o}, LeavesSettings s o → Gives State.SettingsSound o := fun k => k.mono fun t k => .of_part k h
  have take : ∀ {p tag code gate restarts} {f : State → Carried}, (∀ u : State, u.SettingsSound → (f u).1.SettingsSound) →
      (s.take p tag code gate restarts f).SettingsSound := fun k =>
    State.take_keeps (fun _ _ _ _ hu => hu) (fun u _ hu => k u hu) h
  cases i with
  | fullReset p0 p1 p2 p3 => exact h.startUp _
  | responseComplete p =>
    change Gives _ (execResponseComplete p s)
    unfold execResponseComplete
    split
    · exact h
    · split
      · refine .of_part (Quiet.nextResponse _ p).settings ?_
        split
        · exact State.SettingsSound.networkReset (s := s.await _) h
        · exact h
      · exact h
  | hello p tag => exact take fun u hu => .of_part (settingsPart_helloTaken u p) hu
  | refresh p tag => exact take fun u hu => .of_part (settingsPart_refreshTaken u p) hu
  | postOffer p tag mode f cmin cmax rank ramp discharge charge => exact take fun u hu => by split <;> exact hu
  | withdrawOffer p tag => exact take fun u hu => by split <;> exact hu
  | writeMap p tag index flags trunk address qc dpmin mark => exact take fun u hu => hu.carryWriteMap _ _ _ _ _ _ _
  | writeSlot p tag trunk entry rule index length => exact take fun u hu => hu.carryWriteSlot _ _ _ _ _
  | writeParam p tag identifier value => exact take fun u hu => hu.carryWriteParam _ _
  | save p tag => exact take fun u hu => ⟨hu.1, hu.2.1, fun | _, rfl => hu.1, hu.2.2.2⟩
  | saveComplete =>
    change Gives _ (execSaveComplete s)
    unfold execSaveComplete
    split
    · rename_i x hx
      split
      · exact ⟨h.1, h.2.2.1 x hx, nofun, h.2.2.2⟩
      · exact h
    · exact h
  | override p tag index item value => exact take fun u hu => .of_part (settingsPart_carryOverride u p index item value) hu
  | release p tag index => exact take fun u hu => .of_part (settingsPart_carryRelease u p index) hu
  | admitCandidate p tag trunk address index twin qc => exact take fun u hu => hu.carryAdmit _ _ _ _ _
  | longWindowExpiry p => exact leaves (execLongWindowExpiry_settings p s)
  | refreshWindowExpiry p => exact leaves (execRefreshWindowExpiry_settings p s)
  | dispatchExpiry =>
    change Gives _ (execDispatchExpiry s)
    unfold execDispatchExpiry
    split
    · exact State.SettingsSound.dispatchOnce (s := s.await _) h
    · exact h
  | limiterExpiry => exact leaves (execLimiterExpiry_settings s)
  | staleAgeExpiry l => exact leaves (execStaleAgeExpiry_settings l s)
  | holdLimitExpiry l => exact leaves (execHoldLimitExpiry_settings l s)
  | replyTimeout t => exact leaves (execReplyTimeout_settings t s)
  | replyClosed t => exact leaves (execReplyClosed_settings t s)
  | pairExchangeEnd t => exact leaves (execPairExchangeEnd_settings t s)
  | rollcallEnd t => exact leaves (execRollcallEnd_settings t s)
  | withheldExchangeEnd t => exact leaves (execWithheldExchangeEnd_settings t s)
  | resetAsserted => exact ⟨h.1, h.2.1, nofun, h.2.2.2⟩
  | _ => exact absurd rfl quiet

end Sys2Proof.Machine
open Sys2Proof.Machine in
/-- Settles O55, command by command. -/
theorem stepKeepsSettingsSound : Obligations.StepKeepsSettingsSound :=
  fun _ _ hs h => step_keeps (fun hq hu => .of_part hq.settings hu) exec_keeps_settingsSound hs h

end

/-! # Proofs: the step -/

section
namespace Sys2Proof.Machine

theorem step_front {s : State} {c : Instr} {cs : List Instr} (h : s.pending = c :: cs) :
    step s = exec c { s with pending := cs } := by simp only [step, h]

theorem step_idle {s : State} (h : s.pending = []) : step s = .next s.idle := by simp only [step, h]

/-- Idling with an event due hands one of those that are due to the queue (assumption 2). -/
theorem State.idle_of_due {s : State} {c : Instr} (h : s.Due c) :
    ∃ d n, s.Due d ∧ (n = s.ties ∨ n = s.ties + 1) ∧ s.idle = { s with ties := n, pending := [d] } := by
  have hc : c ∈ s.dueEvents := State.mem_dueEvents.2 h
  unfold State.idle
  split
  · rename_i none
    simp [none] at hc
  · rename_i d one
    exact ⟨d, s.ties, State.mem_dueEvents.1 (by simp [one]), .inl rfl, rfl⟩
  · rename_i d e es several
    have hlt : Config.tieBreak s.ties % (es.length + 2) < (d :: e :: es).length := Nat.mod_lt _ (by omega)
    refine ⟨(d :: e :: es)[Config.tieBreak s.ties % (es.length + 2)], s.ties + 1, ?_, .inr rfl, ?_⟩
    · exact State.mem_dueEvents.1 (by rw [several]; exact List.getElem_mem hlt)
    · rw [List.getElem?_eq_getElem hlt]; rfl

/-- Idling with no event due lets one tick pass while the module is powered, and does nothing while it is not. -/
theorem State.idle_of_not_due {s : State} (h : ∀ c, ¬s.Due c) :
    s.idle = if s.powered then { s with clock := s.clock + 1 } else s := by
  have none : s.dueEvents = [] := List.eq_nil_iff_forall_not_mem.2 fun c hc => h c (State.mem_dueEvents.1 hc)
  simp only [State.idle, none]

end Sys2Proof.Machine

open Sys2Proof.Machine in
/-- Settles O1, by whether a command waits and, while none does, by whether an event is due. -/
theorem stepTakesCommandAtFront : Obligations.StepTakesCommandAtFront := by
  refine ⟨fun s c cs h => step_front h, fun s h => ⟨fun hp => ?_, fun hp hd => ?_, fun ⟨c, hc⟩ => ?_⟩⟩
  · have hd : ∀ c, ¬s.Due c := fun c hc => absurd hc.1 (by simp [hp])
    rw [step_idle h, State.idle_of_not_due hd, hp]; rfl
  · rw [step_idle h, State.idle_of_not_due hd, hp]; rfl
  · obtain ⟨d, n, hd, hn, hi⟩ := State.idle_of_due hc
    exact ⟨d, n, hd, hn, by rw [step_idle h, hi]⟩

end

/-! # Proofs: entries that leave the queue, a binding change -/

section
namespace Sys2Proof.Machine

/-! ## Frames that leave the images open -/

/-- All that differs between two states is images and what `WorkFrame` lets differ. -/
abbrev TableFrame (s t : State) : Prop := WorkFrame { s with images := t.images } t

theorem WorkFrame.table {s t : State} (h : WorkFrame s t) : TableFrame s t := by
  obtain ⟨h1, h2, -⟩ := h
  exact ⟨by rw [h1], h2, fun _ => rfl⟩

theorem TableFrame.trans {s t u : State} (h : TableFrame s t) (k : TableFrame t u) : TableFrame s u := by
  have port : ∀ {s t : State}, TableFrame s t → ∀ q, t.port q =
      { s.port q with outcomes := (t.port q).outcomes, overrun := (t.port q).overrun, flags := (t.port q).flags } := fun h => h.2.1
  have h1 := h.1
  have k1 := k.1
  exact ⟨by rw [k1, h1], fun q => (port k q).trans (by rw [port h q]; rfl), fun _ => rfl⟩

theorem TableFrame.setImage (s : State) (l : Station) (x : Image) : TableFrame s (s.setImage l x) :=
  ⟨rfl, fun _ => rfl, fun _ => rfl⟩

/-! ## DropsReach reads its first state in the ports and the clock alone -/

theorem DropsReach.of_ports {g : List CommandEntry} {told : PortId → List OutcomeEntry} {f : FlagSet} {s s' t : State}
    (h : DropsReach g told f s t) (ports : ∀ p, s'.port p = s.port p) (clock : s'.clock = s.clock) : DropsReach g told f s' t := by
  intro p
  rw [ports, clock]
  exact h p

/-- And its second in the ports and the queues alone. -/
theorem DropsReach.to_ports {g : List CommandEntry} {told : PortId → List OutcomeEntry} {f : FlagSet} {s t t' : State}
    (h : DropsReach g told f s t) (ports : ∀ p, t'.port p = t.port p) (queues : ∀ r, t'.queue r = t.queue r) :
    DropsReach g told f s t' := by
  intro p
  simp only [ports, queues]
  exact h p

/-! ## Outcomes stay in the list while fewer than eight follow -/

theorem Port.mem_addOutcomes_of_split {os : List OutcomeEntry} {x : Port} {o : OutcomeEntry} {before after : List OutcomeEntry}
    (h : x.outcomes = before ++ o :: after) (room : after.length + os.length < 8) :
    o ∈ (os.foldl Port.addOutcome x).outcomes := by
  induction os generalizing x before after with
  | nil => simp [h]
  | cons n os ih =>
    simp only [List.length_cons] at room
    refine ih (before := if 8 ≤ x.outcomes.length then before.drop 1 else before) (after := after ++ [n]) ?_ (by simp; omega)
    cases before with
    | nil =>
      have hlen : ¬8 ≤ x.outcomes.length := by simp [h]; omega
      simp only [Port.addOutcome, if_neg hlen]
      rw [h]; rfl
    | cons b bs =>
      by_cases hlen : 8 ≤ x.outcomes.length
      · simp only [Port.addOutcome, if_pos hlen]
        rw [h]; simp
      · simp only [Port.addOutcome, if_neg hlen]
        rw [h]; simp

theorem Port.mem_addOutcomes {os : List OutcomeEntry} {x : Port} {o : OutcomeEntry} (h : o ∈ os) (room : os.length ≤ 8) :
    o ∈ (os.foldl Port.addOutcome x).outcomes := by
  obtain ⟨before, after, rfl⟩ := List.append_of_mem h
  rw [List.foldl_append, List.foldl_cons]
  exact Port.mem_addOutcomes_of_split (before := (if 8 ≤ (before.foldl addOutcome x).outcomes.length then
    (before.foldl addOutcome x).outcomes.drop 1 else (before.foldl addOutcome x).outcomes)) (after := []) rfl
    (by simp at room ⊢; omega)

/-- What an ending reports to a port stands in its list, where it is one of at most eight. -/
theorem DropsReach.mem_outcomes {g : List CommandEntry} {told : PortId → List OutcomeEntry} {f : FlagSet} {s t : State}
    (h : DropsReach g told f s t) {p : PortId} {o : OutcomeEntry} (ho : o ∈ told p ++ droppedOutcomes g p s.clock)
    (room : (told p ++ droppedOutcomes g p s.clock).length ≤ 8) : o ∈ (t.port p).outcomes := by
  obtain ⟨k, hk, -⟩ := dropsReach_iff.1 h p
  rw [hk]
  exact Port.mem_addOutcomes ho room

/-- A flag raised on every port stands in every port's set. -/
theorem DropsReach.hasFlag {g : List CommandEntry} {told : PortId → List OutcomeEntry} {f : FlagSet} {s t : State}
    (h : DropsReach g told f s t) (p : PortId) : Machine.hasFlag (t.port p).flags f := by
  have absorb : ∀ a : FlagSet, (a ||| f) &&& f = f := fun a => by
    ext i hi; simp; tauto
  obtain ⟨k, hk, ⟨-, rfl⟩ | ⟨-, rfl⟩⟩ := dropsReach_iff.1 h p
  · rw [hk, Machine.hasFlag, Port.raise]
    dsimp only
    rw [← BitVec.or_assoc]
    exact absorb _
  · rw [hk]; exact absorb _

/-! ## A station's waiting entries -/

theorem mem_waitingFor {q : List CommandEntry} {l : Station} {e : CommandEntry} :
    e ∈ waitingFor q l ↔ e ∈ q ∧ e.waiting = true ∧ e.index = l := by
  simp [waitingFor]

/-- One waiting entry of a key: a station has at most three, one of each item. -/
theorem waitingFor_length_le {q : List CommandEntry} (h : q.Pairwise notSameWaiting) (l : Station) :
    (waitingFor q l).length ≤ 3 := by
  have distinct : ((waitingFor q l).map (·.item)).Nodup := by
    rw [List.nodup_iff_pairwise_ne, List.pairwise_map]
    refine (h.filter _).imp_of_mem fun {d e} hd he hde hi => ?_
    obtain ⟨-, hdw, hdl⟩ := mem_waitingFor.1 hd
    obtain ⟨-, hew, hel⟩ := mem_waitingFor.1 he
    exact hde ⟨hdw, hew, hdl.trans hel.symm, hi⟩
  have among : ((waitingFor q l).map (·.item)) ⊆ [.cap, .hold, .poll] := fun i _ => by cases i <;> simp
  simpa using (distinct.subperm among).length_le

theorem droppedOutcomes_length_le (g : List CommandEntry) (p : PortId) (n : Nat) :
    (droppedOutcomes g p n).length ≤ g.length := by
  rw [droppedOutcomes, List.length_map]
  exact List.length_filter_le _ _

theorem mem_droppedOutcomes {g : List CommandEntry} {e : CommandEntry} {p : PortId} {n : Nat} (h : e ∈ g)
    (ho : e.originator = .port p) (hr : e.releaseReported = false) :
    (⟨e.index, e.item, e.value, .dropped, n⟩ : OutcomeEntry) ∈ droppedOutcomes g p n :=
  List.mem_map.2 ⟨e, List.mem_filter.2 ⟨h, by simp [ho, hr]⟩, rfl⟩

theorem State.image_dropWaiting_override (s : State) (t : TrunkId) (l k : Station) :
    (s.dropWaiting t l).image k =
      { s.image k with override := (s.image k).override.map (refusedBy (waitingFor (s.queue t) l) k) } :=
  State.image_dropEntries t _ s k

theorem State.limit_dropWaiting (s : State) (t : TrunkId) (l k : Station) :
    (s.dropWaiting t l).limit k = clearedBy (waitingFor (s.queue t) l) k (s.limit k) :=
  State.limit_dropEntries t _ s k

theorem clearedBy_of_index_ne {g : List CommandEntry} {k : Station} (h : ∀ e ∈ g, e.index ≠ k) (x : LimitEntry) :
    clearedBy g k x = x := if_neg fun ⟨e, he, hk, _⟩ => h e he hk

theorem refusedBy_of_index_ne {g : List CommandEntry} {k : Station} (h : ∀ e ∈ g, e.index ≠ k) (ov : Override) :
    refusedBy g k ov = ov := if_neg fun ⟨e, he, hk, _⟩ => h e he hk

/-- What leaves a queue by the removal of a station's waiting entries is those entries. -/
theorem State.mem_queue_dropWaiting {s : State} {t r : TrunkId} {l : Station} {e : CommandEntry} :
    (e ∈ (s.dropWaiting t l).queue r → e ∈ s.queue r)
      ∧ (e ∈ s.queue r → e ∈ (s.dropWaiting t l).queue r ∨ e ∈ waitingFor (s.queue t) l) := by
  rw [State.queue_dropWaiting]
  by_cases hr : r = t
  · subst hr
    simp only [if_true, withoutWaiting, waitingFor, List.mem_filter]
    refine ⟨fun h => h.1, fun h => ?_⟩
    cases hw : e.waiting && e.index == l <;> simp [h]
  · simp only [hr, if_false]
    exact ⟨id, .inl⟩

/-! ## The release of an override by a binding change (R21, R22, R127) -/

/-- The entry with the release-reported mark, where it is the override's own command in flight (R127). -/
def markReported (ov : Override) (l : Station) (e : CommandEntry) : CommandEntry :=
  if !e.waiting && isOwnCommand ov l e then { e with releaseReported := true } else e

theorem markReported_of_waiting {ov : Override} {l : Station} {e : CommandEntry} (h : e.waiting = true) :
    markReported ov l e = e := by simp [markReported, h]

theorem markReported_waiting (ov : Override) (l : Station) (e : CommandEntry) : (markReported ov l e).waiting = e.waiting := by
  unfold markReported; split <;> rfl

theorem markReported_index (ov : Override) (l : Station) (e : CommandEntry) : (markReported ov l e).index = e.index := by
  unfold markReported; split <;> rfl

theorem waitingFor_markReported (ov : Override) (l : Station) (q : List CommandEntry) :
    waitingFor (q.map (markReported ov l)) l = waitingFor q l := by
  rw [waitingFor, List.filter_map]
  simp only [Function.comp_def, markReported_waiting, markReported_index]
  exact (List.map_congr_left fun e he => markReported_of_waiting (mem_waitingFor.1 he).2.1).trans (List.map_id _)

theorem withoutWaiting_markReported (ov : Override) (l : Station) (q : List CommandEntry) :
    withoutWaiting (q.map (markReported ov l)) l = (withoutWaiting q l).map (markReported ov l) := by
  rw [withoutWaiting, List.filter_map]
  simp only [Function.comp_def, markReported_waiting, markReported_index]
  rfl

/-- The release reports the one DROPPED itself: none of the station's waiting entries is the override's own command (R22). -/
def reportsRelease (q : List CommandEntry) (l : Station) (ov : Override) : Bool := (waitingFor q l).all (!isOwnCommand ov l ·)

theorem reportsRelease_eq_false {q : List CommandEntry} {l : Station} {ov : Override} :
    reportsRelease q l ov = false ↔ (q.any fun e => e.waiting && isOwnCommand ov l e) = true := by
  simp only [reportsRelease, List.all_eq_false, mem_waitingFor, List.any_eq_true, Bool.not_eq_true',
    Bool.and_eq_true, Bool.not_eq_false]
  refine ⟨fun ⟨e, ⟨he, hw, _⟩, ho⟩ => ⟨e, he, hw, ho⟩, fun ⟨e, he, hw, ho⟩ => ⟨e, ⟨he, hw, ?_⟩, ho⟩⟩
  simp only [isOwnCommand, Bool.and_eq_true, beq_iff_eq] at ho
  exact ho.1.1.1

/-- What a release by a binding change does: nothing, the clearing of the override alone, or with it the report and the mark on
the own command in flight. -/
theorem State.releaseByBinding_cases (s : State) (t : TrunkId) (l : Station) :
    ((s.image l).override = none ∧ s.releaseByBinding t l = s)
    ∨ ∃ ov, (s.image l).override = some ov
      ∧ ((reportsRelease (s.queue t) l ov = false ∧ s.releaseByBinding t l = s.setImage l { s.image l with override := none })
        ∨ (reportsRelease (s.queue t) l ov = true
          ∧ s.releaseByBinding t l =
            ((s.setImage l { s.image l with override := none }).setQueue t ((s.queue t).map (markReported ov l))).reportRelease
              l ov)) := by
  cases h : (s.image l).override with
  | none => exact .inl ⟨rfl, by simp only [State.releaseByBinding, h]⟩
  | some ov =>
    refine .inr ⟨ov, rfl, ?_⟩
    have hq : (s.modifyImage l fun x => { x with override := none }).queue t = s.queue t := by simp
    cases hr : reportsRelease (s.queue t) l ov with
    | false =>
      have := reportsRelease_eq_false.1 hr
      exact .inl ⟨rfl, by simp only [State.releaseByBinding, h, hq, this, if_true]; rfl⟩
    | true =>
      have : ¬((s.queue t).any fun e => e.waiting && isOwnCommand ov l e) = true := fun k => by
        rw [reportsRelease_eq_false.2 k] at hr; cases hr
      exact .inr ⟨rfl, by simp only [State.releaseByBinding, h, hq, this]; rfl⟩

@[simp] theorem State.image_reportRelease (s : State) (l k : Station) (ov : Override) :
    (s.reportRelease l ov).image k = s.image k := by simp [State.reportRelease, State.addOutcome]

@[simp] theorem State.queue_reportRelease (s : State) (l : Station) (ov : Override) (r : TrunkId) :
    (s.reportRelease l ov).queue r = s.queue r := by simp [State.reportRelease, State.addOutcome]

@[simp] theorem State.limit_flagDrained (s : State) (p : PortId) (k : Station) : (s.flagDrained p).limit k = s.limit k := by
  unfold State.flagDrained; split <;> simp

@[simp] theorem State.limit_reportRelease (s : State) (l k : Station) (ov : Override) :
    (s.reportRelease l ov).limit k = s.limit k := by simp [State.reportRelease, State.addOutcome]

/-- The report of a release reaches its owner alone. -/
theorem State.reportRelease_reaches (s : State) (l : Station) (ov : Override) :
    DropsReach [] (fun p => if ov.owner = p then [⟨l, ov.item, ov.value, .dropped, s.clock⟩] else []) 0 s
      (s.reportRelease l ov) := by
  refine dropsReach_iff.2 fun p => ?_
  by_cases hp : ov.owner = p
  · subst hp
    let u := s.addOutcome ov.owner l ov.item ov.value .dropped
    have hu : u.port ov.owner = (s.port ov.owner).addOutcome ⟨l, ov.item, ov.value, .dropped, s.clock⟩ := by
      simp [u, State.addOutcome]
    have hn : (u.port ov.owner).notify = (s.port ov.owner).notify := by rw [hu]; rfl
    have hq : ∀ r, (s.reportRelease l ov).queue r = u.queue r := fun r => by simp [u, State.addOutcome]
    have hd : Drained [] (fun p => if ov.owner = p then [⟨l, ov.item, ov.value, .dropped, s.clock⟩] else []) s
          (s.reportRelease l ov) ov.owner ↔
        (u.port ov.owner).notify = .drained ∧ ∀ r, ∀ e ∈ u.queue r, e.originator ≠ .port ov.owner := by
      simp only [Drained, hq, hn]
      simp
    rw [hd]
    rcases u.port_flagDrained ov.owner with ⟨h1, h2, h⟩ | ⟨h1, h⟩
    · exact ⟨.cmd, by rw [State.reportRelease, h, hu]; simp [droppedOutcomes], .inl ⟨⟨h1, h2⟩, by simp⟩⟩
    · exact ⟨0, by rw [State.reportRelease, h, hu]; simp [droppedOutcomes, Port.raise], .inr ⟨h1, rfl⟩⟩
  · refine ⟨0, ?_, .inr ⟨by simp [Drained, hp], rfl⟩⟩
    have hf : ((s.addOutcome ov.owner l ov.item ov.value .dropped).flagDrained ov.owner).port p = s.port p := by
      unfold State.flagDrained
      split <;> simp [State.addOutcome, Ne.symm hp]
    simp [State.reportRelease, hf, hp, droppedOutcomes, Port.raise]

end Sys2Proof.Machine
end

section
namespace Sys2Proof.Machine

/-- What a release by a binding change reports to a port. -/
def releaseTold (s : State) (t : TrunkId) (l : Station) (p : PortId) : List OutcomeEntry :=
  ((s.image l).override.toList.filter fun ov => ov.owner == p && reportsRelease (s.queue t) l ov).map fun ov =>
    ⟨l, ov.item, ov.value, .dropped, s.clock⟩

theorem State.releaseByBinding_image (s : State) (t : TrunkId) (l k : Station) :
    (s.releaseByBinding t l).image k = if k = l then { s.image l with override := none } else s.image k := by
  rcases s.releaseByBinding_cases t l with ⟨hn, h⟩ | ⟨ov, -, ⟨-, h⟩ | ⟨-, h⟩⟩ <;> rw [h]
  · split
    · rename_i hk; rw [hk, ← hn]
    · rfl
  · simp
  · simp

theorem State.releaseByBinding_limit (s : State) (t : TrunkId) (l k : Station) :
    (s.releaseByBinding t l).limit k = s.limit k := by
  rcases s.releaseByBinding_cases t l with ⟨-, h⟩ | ⟨ov, -, ⟨-, h⟩ | ⟨-, h⟩⟩ <;> rw [h] <;> simp

theorem State.releaseByBinding_queue_ne (s : State) {t r : TrunkId} (l : Station) (hr : r ≠ t) :
    (s.releaseByBinding t l).queue r = s.queue r := by
  rcases s.releaseByBinding_cases t l with ⟨-, h⟩ | ⟨ov, -, ⟨-, h⟩ | ⟨-, h⟩⟩ <;> rw [h] <;> simp [hr]

theorem State.releaseByBinding_queue_none {s : State} {t : TrunkId} {l : Station} (ho : (s.image l).override = none) :
    (s.releaseByBinding t l).queue t = s.queue t := by
  rcases s.releaseByBinding_cases t l with ⟨-, h⟩ | ⟨ov, ho', -⟩
  · rw [h]
  · rw [ho] at ho'; cases ho'

theorem State.releaseByBinding_queue_some {s : State} {t : TrunkId} {l : Station} {ov : Override}
    (ho : (s.image l).override = some ov) : (s.releaseByBinding t l).queue t =
      if reportsRelease (s.queue t) l ov then (s.queue t).map (markReported ov l) else s.queue t := by
  rcases s.releaseByBinding_cases t l with ⟨hn, -⟩ | ⟨ov', ho', ⟨hr, h⟩ | ⟨hr, h⟩⟩
  · rw [ho] at hn; cases hn
  all_goals
    obtain rfl : ov = ov' := by rw [ho] at ho'; simpa using ho'
    rw [h, hr]; simp

/-- The waiting entries of the station are the same after the release. -/
theorem State.releaseByBinding_waitingFor (s : State) (t : TrunkId) (l : Station) :
    waitingFor ((s.releaseByBinding t l).queue t) l = waitingFor (s.queue t) l := by
  cases ho : (s.image l).override with
  | none => rw [State.releaseByBinding_queue_none ho]
  | some ov =>
    rw [State.releaseByBinding_queue_some ho]
    split
    · exact waitingFor_markReported ov l _
    · rfl

theorem State.releaseByBinding_reaches (s : State) (t : TrunkId) (l : Station) :
    DropsReach [] (releaseTold s t l) 0 s (s.releaseByBinding t l) := by
  have silent : ∀ u : State, (∀ p, u.port p = s.port p) → (∀ p, releaseTold s t l p = []) → DropsReach [] (releaseTold s t l) 0 s u := by
    intro u hu htold
    have : releaseTold s t l = fun _ => [] := funext htold
    rw [this]
    refine dropsReach_iff.2 fun p => ⟨0, by simp [droppedOutcomes, Port.raise, hu], .inr ⟨by simp [Drained], rfl⟩⟩
  rcases s.releaseByBinding_cases t l with ⟨hn, h⟩ | ⟨ov, ho, ⟨hr, h⟩ | ⟨hr, h⟩⟩
  · rw [h]; exact silent s (fun _ => rfl) fun p => by simp [releaseTold, hn]
  · rw [h]; exact silent _ (fun _ => by simp) fun p => by simp [releaseTold, ho, hr]
  · have told : releaseTold s t l = fun p => if ov.owner = p then [⟨l, ov.item, ov.value, .dropped, s.clock⟩] else [] := by
      funext p
      by_cases hp : ov.owner = p <;> simp [releaseTold, ho, hr, hp]
    rw [h, told]
    have hclock : ((s.setImage l { s.image l with override := none }).setQueue t
        ((s.queue t).map (markReported ov l))).clock = s.clock := by simp
    have := State.reportRelease_reaches ((s.setImage l { s.image l with override := none }).setQueue t
      ((s.queue t).map (markReported ov l))) l ov
    rw [hclock] at this
    exact this.of_ports (fun p => by simp) hclock.symm

/-! ## A binding change (R21) -/

/-- The state in which the release of a binding change begins: the map part is written, and the image part rebound. -/
def State.remapped (s : State) (l : Station) (m : MapPart) : State := (s.setMap l m).setImage l ((s.image l).rebound m.enabled)

/-- The state of a binding change before STATION is raised. -/
def State.detached (s : State) (l : Station) (m : MapPart) : State :=
  ((s.remapped l m).releaseByBinding (s.map l).trunk l).dropWaiting (s.map l).trunk l

theorem State.bindingChange_eq (s : State) (l : Station) (m : MapPart) :
    s.bindingChange l m =
      if (s.image l).state = .lost then ((s.detached l m).setLimit l .cleared).raiseAll .station
      else (s.detached l m).setLimit l .cleared := rfl

theorem State.remapped_image (s : State) (l k : Station) (m : MapPart) :
    (s.remapped l m).image k = if k = l then (s.image l).rebound m.enabled else s.image k := by simp [State.remapped]

theorem State.remapped_override (s : State) (l : Station) (m : MapPart) :
    ((s.remapped l m).image l).override = (s.image l).override := by
  simp [State.remapped_image, Image.rebound]

@[simp] theorem State.remapped_queue (s : State) (l : Station) (m : MapPart) (r : TrunkId) :
    (s.remapped l m).queue r = s.queue r := by simp [State.remapped]

@[simp] theorem State.remapped_limit (s : State) (l k : Station) (m : MapPart) : (s.remapped l m).limit k = s.limit k := rfl

@[simp] theorem State.remapped_port (s : State) (l : Station) (m : MapPart) (p : PortId) : (s.remapped l m).port p = s.port p := rfl

@[simp] theorem State.remapped_clock (s : State) (l : Station) (m : MapPart) : (s.remapped l m).clock = s.clock := rfl

theorem State.detached_image (s : State) (l k : Station) (m : MapPart) :
    (s.detached l m).image k =
      if k = l then { (s.image l).rebound m.enabled with override := none } else s.image k := by
  by_cases hk : k = l
  · subst hk
    rw [State.detached, State.image_dropWaiting_override, State.releaseByBinding_image, State.remapped_image]
    simp
  · rw [State.detached, State.image_dropWaiting _ _ _ _ hk, State.releaseByBinding_image, if_neg hk, if_neg hk,
      State.remapped_image, if_neg hk]

theorem State.detached_limit_ne (s : State) {l k : Station} (m : MapPart) (hk : k ≠ l) : (s.detached l m).limit k = s.limit k := by
  rw [State.detached, State.limit_dropWaiting, State.releaseByBinding_limit, State.remapped_limit]
  exact clearedBy_of_index_ne (fun e he h => hk (h.symm.trans (mem_waitingFor.1 he).2.2)) _

theorem State.detached_queue_ne (s : State) (l : Station) (m : MapPart) {r : TrunkId} (hr : r ≠ (s.map l).trunk) :
    (s.detached l m).queue r = s.queue r := by
  rw [State.detached, State.queue_dropWaiting, if_neg hr, State.releaseByBinding_queue_ne _ _ hr, State.remapped_queue]

theorem State.detached_queue_none {s : State} {l : Station} (m : MapPart) (ho : (s.image l).override = none) :
    (s.detached l m).queue (s.map l).trunk = withoutWaiting (s.queue (s.map l).trunk) l := by
  rw [State.detached, State.queue_dropWaiting, if_pos rfl,
    State.releaseByBinding_queue_none ((s.remapped_override l m).trans ho), State.remapped_queue]

theorem State.detached_queue_some {s : State} {l : Station} {ov : Override} (m : MapPart)
    (ho : (s.image l).override = some ov) :
    (s.detached l m).queue (s.map l).trunk =
      if reportsRelease (s.queue (s.map l).trunk) l ov then (withoutWaiting (s.queue (s.map l).trunk) l).map (markReported ov l)
      else withoutWaiting (s.queue (s.map l).trunk) l := by
  rw [State.detached, State.queue_dropWaiting, if_pos rfl,
    State.releaseByBinding_queue_some ((s.remapped_override l m).trans ho), State.remapped_queue]
  split
  · exact withoutWaiting_markReported ov l _
  · rfl

theorem State.detached_reaches (s : State) (l : Station) (m : MapPart) :
    DropsReach (waitingFor (s.queue (s.map l).trunk) l) (releaseTold s (s.map l).trunk l) 0 s (s.detached l m) := by
  let u := (s.remapped l m).releaseByBinding (s.map l).trunk l
  have told : releaseTold (s.remapped l m) (s.map l).trunk l = releaseTold s (s.map l).trunk l := by
    funext p
    simp [releaseTold, State.remapped_override]
  have released : DropsReach [] (releaseTold s (s.map l).trunk l) 0 s u :=
    told ▸ ((s.remapped l m).releaseByBinding_reaches (s.map l).trunk l).of_ports (fun _ => rfl) rfl
  have gone : waitingFor (u.queue (s.map l).trunk) l = waitingFor (s.queue (s.map l).trunk) l := by
    rw [State.releaseByBinding_waitingFor, State.remapped_queue]
  have dropped := u.dropWaiting_reaches (s.map l).trunk l
  rw [gone] at dropped
  have clock : u.clock = s.clock := (WorkFrame.releaseByBinding _ _ _).clock
  have := released.trans dropped clock (fun r e => State.mem_queue_dropWaiting.1) fun r e h => by
    rw [← gone]; exact State.mem_queue_dropWaiting.2 h
  rw [List.nil_append, BitVec.or_self] at this
  exact this

theorem State.bindingChange_frame (s : State) (l : Station) (m : MapPart) : TableFrame (s.setMap l m) (s.bindingChange l m) := by
  have h : TableFrame (s.setMap l m) (s.detached l m) :=
    (TableFrame.setImage (s.setMap l m) l _).trans
      ((WorkFrame.releaseByBinding _ _ l).trans (.dropWaiting _ _ l)).table
  rw [State.bindingChange_eq]
  split
  · exact h.trans ((WorkFrame.setLimit _ l _).trans (.raiseAll _ _)).table
  · exact h.trans (WorkFrame.setLimit _ l _).table

theorem State.bindingChange_image (s : State) (l k : Station) (m : MapPart) :
    (s.bindingChange l m).image k =
      if k = l then { (s.image l).rebound m.enabled with override := none } else s.image k := by
  rw [State.bindingChange_eq, ← State.detached_image]
  split <;> simp

theorem State.bindingChange_limit (s : State) (l k : Station) (m : MapPart) :
    (s.bindingChange l m).limit k = if k = l then .cleared else s.limit k := by
  rw [State.bindingChange_eq]
  by_cases hk : k = l
  · split <;> simp [hk]
  · split <;> simp [hk, State.detached_limit_ne s m hk]

theorem State.bindingChange_queue (s : State) (l : Station) (m : MapPart) (r : TrunkId) :
    (s.bindingChange l m).queue r = (s.detached l m).queue r := by
  rw [State.bindingChange_eq]
  split <;> simp

theorem State.bindingChange_reaches (s : State) (l : Station) (m : MapPart) :
    DropsReach (waitingFor (s.queue (s.map l).trunk) l) (releaseTold s (s.map l).trunk l)
      (if (s.image l).state = .lost then .station else 0) s (s.bindingChange l m) := by
  have h : DropsReach (waitingFor (s.queue (s.map l).trunk) l) (releaseTold s (s.map l).trunk l) 0 s
      ((s.detached l m).setLimit l .cleared) := (s.detached_reaches l m).to_ports (fun _ => by simp) fun _ => by simp
  rw [State.bindingChange_eq]
  split
  · simpa using h.raiseAll .station
  · exact h

/-- A binding change that releases an override ends the override's command DROPPED at its owner, by the release's report or by
the removal of the command from the queue (R22). -/
theorem State.bindingChange_tells_owner {s : State} {l : Station} {ov : Override} (m : MapPart)
    (ho : (s.image l).override = some ov) (hq : QueueSound (s.queue (s.map l).trunk))
    (hr : ∀ e ∈ s.queue (s.map l).trunk, e.waiting = true → e.releaseReported = false) :
    (⟨l, ov.item, ov.value, .dropped, s.clock⟩ : OutcomeEntry) ∈ ((s.bindingChange l m).port ov.owner).outcomes := by
  have hfew := waitingFor_length_le hq.2.1 l
  have htold : (releaseTold s (s.map l).trunk l ov.owner).length ≤ 1 := by
    rw [releaseTold, List.length_map, ho]
    exact List.length_filter_le _ _
  refine (s.bindingChange_reaches l m).mem_outcomes (List.mem_append.2 ?_) ?_
  · cases hrep : reportsRelease (s.queue (s.map l).trunk) l ov with
    | true => exact .inl (by simp [releaseTold, ho, hrep])
    | false =>
      obtain ⟨e, he, hown⟩ := List.all_eq_false.1 hrep
      obtain ⟨hmem, hwait, hl⟩ := mem_waitingFor.1 he
      simp only [isOwnCommand, Bool.not_eq_true', Bool.not_eq_false, Bool.and_eq_true, beq_iff_eq] at hown
      obtain ⟨⟨⟨-, hitem⟩, hvalue⟩, horig⟩ := hown
      have := mem_droppedOutcomes (n := s.clock) he horig (hr e hmem hwait)
      rw [hl, hitem, hvalue] at this
      exact .inr this
  · have := droppedOutcomes_length_le (waitingFor (s.queue (s.map l).trunk) l) ov.owner s.clock
    rw [List.length_append]
    omega

end Sys2Proof.Machine

open Sys2Proof.Machine in
/-- Settles O33: the release and the removal of the waiting entries, one after the other. -/
theorem bindingChangeEffects : Obligations.BindingChangeEffects := by
  intro s l m
  refine ⟨?_, ?_, fun k hk => ⟨?_, ?_⟩, fun r hr => ?_, fun ho => ?_, fun ov ho => ⟨fun hr => ?_, fun hr => ?_⟩, ?_,
    fun hl q => ?_, fun ov ho hq hw => ?_, ?_⟩
  · rw [State.bindingChange_image, if_pos rfl]; rfl
  · rw [State.bindingChange_limit, if_pos rfl]; rfl
  · rw [State.bindingChange_image, if_neg hk]
  · rw [State.bindingChange_limit, if_neg hk]
  · rw [State.bindingChange_queue, State.detached_queue_ne _ _ _ hr]
  · rw [State.bindingChange_queue, State.detached_queue_none m ho]
  · have hr : reportsRelease (s.queue (s.map l).trunk) l ov = true := hr
    rw [State.bindingChange_queue, State.detached_queue_some m ho, if_pos hr]
    refine List.map_congr_left fun e _ => ?_
    simp only [markReported, isOwnCommand, Bool.and_eq_true, Bool.not_eq_true']
  · have hr : reportsRelease (s.queue (s.map l).trunk) l ov = false := hr
    rw [State.bindingChange_queue, State.detached_queue_some m ho, hr]; rfl
  · exact s.bindingChange_reaches l m
  · have := s.bindingChange_reaches l m
    rw [if_pos hl] at this
    exact this.hasFlag q
  · exact State.bindingChange_tells_owner m ho hq hw
  · exact s.bindingChange_frame l m

end

/-! # Proofs: into LOST and out of it -/

section
namespace Sys2Proof.Machine

/-! ## An entry into LOST (R15) -/

theorem State.enterLost_frame (s : State) (l : Station) : TableFrame s (s.enterLost l) :=
  ((WorkFrame.dropWaiting s _ l).table.trans (.setImage _ l _)).trans (WorkFrame.raiseAll _ _).table

theorem State.enterLost_queue (s : State) (l : Station) (r : TrunkId) :
    (s.enterLost l).queue r =
      if r = (s.map l).trunk then withoutWaiting (s.queue (s.map l).trunk) l else s.queue r := by
  simp [State.enterLost, State.queue_dropWaiting]

theorem State.enterLost_image_ne (s : State) {l k : Station} (hk : k ≠ l) : (s.enterLost l).image k = s.image k := by
  simp [State.enterLost, hk, State.image_dropWaiting _ _ _ _ hk]

theorem State.enterLost_flags (s : State) (l : Station) (q : PortId) : hasFlag ((s.enterLost l).port q).flags .station :=
  (s.enterLost_reaches l).1.hasFlag q

/-- Each waiting entry of the station is reported DROPPED to its originator. -/
theorem State.enterLost_tells {s : State} {l : Station} (hq : QueueSound (s.queue (s.map l).trunk)) {e : CommandEntry}
    (he : e ∈ s.queue (s.map l).trunk) {q : PortId} (hw : e.waiting = true) (hl : e.index = l) (ho : e.originator = .port q)
    (hr : e.releaseReported = false) :
    (⟨l, e.item, e.value, .dropped, s.clock⟩ : OutcomeEntry) ∈ ((s.enterLost l).port q).outcomes := by
  refine (s.enterLost_reaches l).1.mem_outcomes ?_ ?_
  · subst hl
    exact mem_droppedOutcomes (mem_waitingFor.2 ⟨he, hw, rfl⟩) ho hr
  · have h1 := waitingFor_length_le hq.2.1 l
    have h2 := droppedOutcomes_length_le (waitingFor (s.queue (s.map l).trunk) l) q s.clock
    simp only [List.nil_append]
    omega

/-! ## The reading timers -/

theorem exec_staleAgeExpiry {s : State} {l : Station} {r : Reading} (hp : s.powered = true) (hr : (s.image l).reading = some r)
    (hs : (s.image l).state = .live) :
    exec (.staleAgeExpiry l) s =
      .next ((s.passed (r.goodAt + s.params.staleAge * 115200)).setImage l { s.image l with state := .stale }) := by
  have : exec (.staleAgeExpiry l) s = .next ((s.await (r.ageDue s.params.staleAge)).enterStale l) := by
    simp only [exec, execStaleAgeExpiry, hs, hr, hp, if_true]
  exact this

theorem exec_holdLimitExpiry {s : State} {l : Station} {r : Reading} (hp : s.powered = true) (hr : (s.image l).reading = some r)
    (hs : (s.image l).state = .stale) :
    exec (.holdLimitExpiry l) s = .next ((s.passed (r.goodAt + s.params.holdLimit * 115200)).enterLost l) := by
  simp only [exec, execHoldLimitExpiry, hs, hr, hp, if_true]
  rfl

@[simp] theorem State.queue_passed (s : State) (n : Nat) (r : TrunkId) : (s.passed n).queue r = s.queue r := by cases r <;> rfl

/-! ## Results at the Station Table -/

theorem State.tableResult_of_stamp {s : State} {stamp : Stamp} (hg : (s.image stamp.index).generation = stamp.generation)
    (hu : (s.image stamp.index).state ≠ .unbound) (r : StationResult) :
    s.tableResult stamp r =
      match r with
      | .good reading status => s.goodReply stamp.index reading status
      | .sensorFault status => s.sensorFaultReply stamp.index status
      | .miss => s.stationMiss stamp.index := if_pos ⟨hg, hu⟩

theorem State.tableResult_of_old {s : State} {stamp : Stamp}
    (h : (s.image stamp.index).generation ≠ stamp.generation ∨ (s.image stamp.index).state = .unbound) (r : StationResult) :
    s.tableResult stamp r = s := if_neg fun ⟨hg, hu⟩ => h.elim (· hg) hu

/-- A POLL is asked for by the bit of ATTENTION, on the trunk of the entry (R17). -/
theorem State.pollIfAttention_eq (s : State) (l : Station) (status : StatusSet) :
    s.pollIfAttention l status =
      if status.getLsbD 4 = true then s.offerIfRoom (s.map l).trunk l .poll none .module else s := rfl

theorem State.goodReply_eq (s : State) (l : Station) (r : Reading) (status : StatusSet) :
    let u := s.setImage l { s.image l with reading := some r, status := some status, misses := 0, state := .live }
    let v := if (s.image l).state = .lost then u.flagged .station else u
    s.goodReply l r status = if status.getLsbD 4 = true then v.offerIfRoom (s.map l).trunk l .poll none .module else v := by
  dsimp only [State.goodReply]
  rw [State.pollIfAttention_eq, State.raiseAll_eq_flagged, State.modifyImage_eq]
  by_cases hl : (s.image l).state = .lost
  · simp only [if_pos hl]; rfl
  · simp only [if_neg hl]; rfl

theorem StationState.losable_iff (x : StationState) : x.losable = true ↔ x ≠ .lost ∧ x ≠ .unbound := by
  cases x <;> simp [StationState.losable]

/-- A miss that does not take the entry to LOST counts, up to 15 (R11). -/
theorem State.stationMiss_counts {s : State} {l : Station}
    (h : (s.image l).state = .lost ∨ min 15 ((s.image l).misses + 1) < s.params.faultMisses) :
    s.stationMiss l = s.setImage l { s.image l with misses := min 15 ((s.image l).misses + 1) } := by
  refine if_neg fun ⟨hlosable, hlimit⟩ => ?_
  rcases h with h | h
  · exact ((StationState.losable_iff _).1 hlosable).1 h
  · omega

theorem State.stationMiss_loses {s : State} {l : Station} (hl : (s.image l).state ≠ .lost)
    (hu : (s.image l).state ≠ .unbound) (h : s.params.faultMisses ≤ min 15 ((s.image l).misses + 1)) :
    s.stationMiss l = (s.setImage l { s.image l with misses := min 15 ((s.image l).misses + 1) }).enterLost l :=
  if_pos ⟨(StationState.losable_iff _).2 ⟨hl, hu⟩, h⟩

end Sys2Proof.Machine

open Sys2Proof.Machine in
/-- Settles O34: an expiry is an entry into STALE, or one into LOST, at its moment. -/
theorem readingTimersExpire : Obligations.ReadingTimersExpire := by
  intro l r s hp hr
  refine ⟨fun hs => exec_staleAgeExpiry hp hr hs, fun hs => ⟨_, exec_holdLimitExpiry hp hr hs, ?_⟩⟩
  generalize hu : s.passed (r.goodAt + s.params.holdLimit * 115200) = u
  have queues : ∀ q, u.queue q = s.queue q := fun q => by rw [← hu, State.queue_passed]
  have images : ∀ k, u.image k = s.image k := fun k => by rw [← hu]; rfl
  have limits : ∀ k, u.limit k = s.limit k := fun k => by rw [← hu]; rfl
  have trunk : (u.map l).trunk = (s.map l).trunk := by rw [← hu]; rfl
  obtain ⟨hreach, himage, hlimit⟩ := u.enterLost_reaches l
  have hqueue := u.enterLost_queue l
  have htells := State.enterLost_tells (s := u) (l := l)
  simp only [trunk, queues, images, limits] at hreach himage hlimit hqueue htells
  refine ⟨himage, hlimit, hreach, ?_, u.enterLost_flags l, fun hq e he q hw hl ho hr => htells hq he hw hl ho hr, fun k hk => ?_,
    fun q hq => ?_, u.enterLost_frame l⟩
  · rw [hqueue, if_pos rfl]
  · rw [State.enterLost_image_ne u hk, images]
  · rw [hqueue, if_neg hq]

open Sys2Proof.Machine in
/-- Settles O48, by the kind of the result; a miss is an entry into LOST where it reaches the fault limit. -/
theorem stationResults : Obligations.StationResults := by
  refine ⟨fun s stamp => ⟨fun h result => State.tableResult_of_old h result, fun hg hu => ⟨fun r status => ?_, fun status => ?_,
    fun h => ?_, fun hl h => ?_⟩⟩, fun a b sa sb h => ⟨?_, ?_, rfl, rfl, rfl, ?_⟩⟩
  · rw [State.tableResult_of_stamp hg hu]
    exact State.goodReply_eq s stamp.index r status
  · rw [State.tableResult_of_stamp hg hu]
    exact State.pollIfAttention_eq _ _ _
  · rw [State.tableResult_of_stamp hg hu]
    exact State.stationMiss_counts h
  · rw [State.tableResult_of_stamp hg hu]
    dsimp only
    rw [State.stationMiss_loses hl hu h]
    generalize hv : s.setImage stamp.index _ = v
    have queues : ∀ q, v.queue q = s.queue q := fun q => by rw [← hv]; simp
    have limits : ∀ k, v.limit k = s.limit k := fun k => by rw [← hv]; rfl
    have trunk : (v.map stamp.index).trunk = (s.map stamp.index).trunk := by rw [← hv]; rfl
    obtain ⟨hreach, himage, hlimit⟩ := v.enterLost_reaches stamp.index
    have hqueue := v.enterLost_queue stamp.index
    have hframe : TableFrame s (v.enterLost stamp.index) := by
      refine TableFrame.trans ?_ (v.enterLost_frame stamp.index)
      rw [← hv]
      exact .setImage s _ _
    simp only [trunk, queues, limits] at hreach himage hlimit hqueue
    refine ⟨?_, hlimit, hreach.of_ports (fun p => by rw [← hv]; rfl) (by rw [← hv]; rfl), fun r hr => ?_, ?_,
      v.enterLost_flags _, fun k hk => ?_, hframe⟩
    · rw [himage, ← hv, State.image_setImage, if_pos rfl]
    · rw [hqueue, if_neg hr]
    · rw [hqueue, if_pos rfl]
    · rw [State.enterLost_image_ne v hk, ← hv, State.image_setImage, if_neg hk]
  · cases h <;> rfl
  · cases h <;> rfl
  · obtain ⟨q, ts, tr, v, dp, clamped, goodAt⟩ := a
    cases dp <;> rfl

end

/-! # Proofs: new age limits judge every entry (R14) -/

section
namespace Sys2Proof.Machine

/-! ## Step 1: LIVE entries that become STALE -/

/-- The state of an entry once a LIVE one that has reached the stale age is STALE (R14, step 1). -/
def State.onceStale (s : State) (l : Station) : StationState :=
  if (s.image l).state = .live ∧ s.ageReached l s.params.staleAge then .stale else (s.image l).state

theorem State.rejudgeLive_eq (s : State) (l : Station) :
    s.rejudgeLive l = s.setImage l { s.image l with state := s.onceStale l } := by
  unfold State.rejudgeLive State.onceStale
  split
  · rfl
  · exact (s.setImage_image l).symm

/-- What another entry becomes is not changed by a write of this one. -/
theorem State.onceStale_setImage (s : State) {k l : Station} (x : Image) (h : k ≠ l) :
    (s.setImage l x).onceStale k = s.onceStale k := by
  have himage : (s.setImage l x).image k = s.image k := by simp [h]
  have hage : (s.setImage l x).ageReached k = s.ageReached k := by
    funext n; simp only [State.ageReached, himage]; rfl
  simp only [State.onceStale, himage, hage]; rfl

theorem State.rejudgeLives_image {ls : List Station} (hls : ls.Nodup) (s : State) (k : Station) :
    (ls.foldl State.rejudgeLive s).image k =
      if k ∈ ls then { s.image k with state := s.onceStale k } else s.image k := by
  induction ls generalizing s with
  | nil => rfl
  | cons l ls ih =>
    obtain ⟨hl, hls⟩ := List.nodup_cons.1 hls
    rw [List.foldl_cons, ih hls, State.rejudgeLive_eq]
    by_cases hk : k = l
    · subst hk; simp [hl]
    · simp [hk, State.onceStale_setImage]

/-- Nothing but images is touched by step 1. -/
theorem State.rejudgeLives_eq (ls : List Station) (s : State) :
    ls.foldl State.rejudgeLive s = { s with images := (ls.foldl State.rejudgeLive s).images } := by
  induction ls generalizing s with
  | nil => rfl
  | cons l ls ih => rw [List.foldl_cons, ih, State.rejudgeLive_eq]; rfl

/-! ## Step 2: STALE entries that become LOST -/

/-- The entry is STALE and has reached the hold limit (R14, step 2). -/
def State.losing (s : State) (l : Station) : Bool := (s.image l).state = .stale && s.ageReached l s.params.holdLimit

/-- The waiting entries of those stations of the list that are losing, in order. -/
def State.goneAmong (s : State) (ls : List Station) : List CommandEntry :=
  (ls.filter s.losing).flatMap fun l => waitingFor (s.queue (s.map l).trunk) l

/-- The queue entry is a waiting one of a losing station of the list, on its trunk. -/
def State.leaves (s : State) (ls : List Station) (r : TrunkId) (e : CommandEntry) : Bool :=
  e.waiting && (decide (e.index ∈ ls) && s.losing e.index) && (s.map e.index).trunk == r

theorem State.rejudgeStale_eq (s : State) (l : Station) : s.rejudgeStale l = if s.losing l then s.enterLost l else s := by
  unfold State.rejudgeStale State.losing
  simp only [Bool.and_eq_true, decide_eq_true_eq]

theorem refusedBy_append (g h : List CommandEntry) (l : Station) (ov : Override) :
    refusedBy (g ++ h) l ov = refusedBy h l (refusedBy g l ov) := by
  induction g generalizing ov with
  | nil => simp [refusedBy]
  | cons e g ih => rw [List.cons_append, refusedBy_cons, ih, ← refusedBy_cons]

theorem clearedBy_append (g h : List CommandEntry) (l : Station) (x : LimitEntry) :
    clearedBy (g ++ h) l x = clearedBy h l (clearedBy g l x) := by
  induction g generalizing x with
  | nil => simp [clearedBy]
  | cons e g ih => rw [List.cons_append, clearedBy_cons, ih, ← clearedBy_cons]

theorem State.goneAmong_index {s : State} {ls : List Station} {e : CommandEntry} (h : e ∈ s.goneAmong ls) : e.index ∈ ls := by
  obtain ⟨l, hl, he⟩ := List.mem_flatMap.1 h
  rw [(mem_waitingFor.1 he).2.2]
  exact (List.mem_filter.1 hl).1

theorem State.goneAmong_cons (s : State) (l : Station) (ls : List Station) :
    s.goneAmong (l :: ls) =
      (if s.losing l then waitingFor (s.queue (s.map l).trunk) l else []) ++ s.goneAmong ls := by
  cases h : s.losing l <;> simp [State.goneAmong, h]

/-- What the entries of the list that are losing leave, once each has entered LOST in turn. -/
structure LosesAmong (s t : State) (ls : List Station) : Prop where
  frame : TableFrame s t
  image : ∀ k, t.image k =
    if k ∈ ls ∧ s.losing k = true then
      { s.image k with state := .lost, override := (s.image k).override.map (refusedBy (s.goneAmong ls) k) }
    else s.image k
  limit : ∀ k, t.limit k = clearedBy (s.goneAmong ls) k (s.limit k)
  queue : ∀ r, t.queue r = (s.queue r).filter fun e => !s.leaves ls r e
  reaches : DropsReach (s.goneAmong ls) (fun _ => []) (if ∃ l ∈ ls, s.losing l = true then .station else 0) s t

/-- An entry into LOST changes no other station's judgement. -/
theorem State.losing_enterLost (s : State) {k l : Station} (h : k ≠ l) : (s.enterLost l).losing k = s.losing k := by
  have himage := s.enterLost_image_ne h
  have hclock : (s.enterLost l).clock = s.clock := (s.enterLost_frame l).clock
  have hparams : (s.enterLost l).params = s.params := (s.enterLost_frame l).params
  simp [State.losing, State.ageReached, himage, hclock, hparams]

theorem State.goneAmong_enterLost (s : State) {l : Station} {ls : List Station} (h : l ∉ ls) :
    (s.enterLost l).goneAmong ls = s.goneAmong ls := by
  have hmap : ∀ k, (s.enterLost l).map k = s.map k := fun k => (s.enterLost_frame l).map k
  have hfilter : ls.filter (s.enterLost l).losing = ls.filter s.losing :=
    List.filter_congr fun k hk => s.losing_enterLost fun e => h (e ▸ hk)
  rw [State.goneAmong, hfilter, State.goneAmong]
  refine List.flatMap_congr fun k hk => ?_
  have hkl : k ≠ l := fun e => h (e ▸ (List.mem_filter.1 hk).1)
  rw [hmap, State.enterLost_queue]
  split
  · rename_i ht
    rw [ht, waitingFor, withoutWaiting, List.filter_filter, waitingFor]
    refine List.filter_congr fun e _ => ?_
    by_cases hek : e.index = k
    · simp [hek, hkl]
    · simp [hek]
  · rfl

theorem LosesAmong.cons_losing {s t : State} {l : Station} {ls : List Station} (hl : l ∉ ls) (hlost : s.losing l = true)
    (h : LosesAmong (s.enterLost l) t ls) : LosesAmong s t (l :: ls) := by
  obtain ⟨hframe, himage, hlimit, hqueue, hreaches⟩ := h
  obtain ⟨lreaches, limage, llimit⟩ := s.enterLost_reaches l
  have hmap : ∀ k, (s.enterLost l).map k = s.map k := fun k => (s.enterLost_frame l).map k
  have hlosing : ∀ k ∈ ls, (s.enterLost l).losing k = s.losing k := fun k hk => s.losing_enterLost fun e => hl (e ▸ hk)
  have gone : s.goneAmong (l :: ls) = waitingFor (s.queue (s.map l).trunk) l ++ s.goneAmong ls := by
    rw [State.goneAmong_cons, if_pos hlost]
  rw [s.goneAmong_enterLost hl] at himage hlimit hreaches
  refine ⟨(s.enterLost_frame l).trans hframe, fun k => ?_, fun k => ?_, fun r => ?_, ?_⟩
  · by_cases hk : k = l
    · subst hk
      have other : ∀ ov, refusedBy (s.goneAmong ls) k ov = ov :=
        refusedBy_of_index_ne fun e he hk => hl (hk ▸ State.goneAmong_index he)
      have same : refusedBy (s.goneAmong (k :: ls)) k = refusedBy (waitingFor (s.queue (s.map k).trunk) k) k :=
        funext fun ov => by rw [gone, refusedBy_append, other]
      rw [himage, if_neg fun h => hl h.1, limage, if_pos ⟨List.mem_cons_self, hlost⟩, same]
    · have other : ∀ ov, refusedBy (waitingFor (s.queue (s.map l).trunk) l) k ov = ov :=
        refusedBy_of_index_ne fun e he h => hk (h.symm.trans (mem_waitingFor.1 he).2.2)
      have same : refusedBy (s.goneAmong (l :: ls)) k = refusedBy (s.goneAmong ls) k :=
        funext fun ov => by rw [gone, refusedBy_append, other]
      rw [himage, s.losing_enterLost hk, s.enterLost_image_ne hk, same]
      simp only [List.mem_cons, hk, false_or]
  · rw [hlimit, llimit, gone, clearedBy_append]
  · rw [hqueue, s.enterLost_queue]
    have point : ∀ e, (!(s.enterLost l).leaves ls r e && !(e.waiting && e.index == l && (s.map l).trunk == r)) =
        !s.leaves (l :: ls) r e := fun e => by
      by_cases he : e.index = l
      · subst he
        simp [State.leaves, hl, hlost]
      · simp [State.leaves, he, hmap, s.losing_enterLost he]
    split
    · rename_i hr
      subst hr
      rw [withoutWaiting, List.filter_filter]
      refine List.filter_congr fun e _ => ?_
      rw [← point]; simp
    · rename_i hr
      refine List.filter_congr fun e _ => ?_
      have : ((s.map l).trunk == r) = false := by simpa using Ne.symm hr
      rw [← point, this]; simp
  · have left : ∀ r, ∀ e ∈ (s.enterLost l).queue r, e ∈ t.queue r ∨ e ∈ s.goneAmong ls := fun r e he => by
      rw [hqueue, List.mem_filter]
      cases hleaves : (s.enterLost l).leaves ls r e with
      | false => exact .inl ⟨he, by simp⟩
      | true =>
        simp only [State.leaves, Bool.and_eq_true, decide_eq_true_eq, beq_iff_eq] at hleaves
        obtain ⟨⟨hw, hmem, hlose⟩, htrunk⟩ := hleaves
        rw [← s.goneAmong_enterLost hl]
        exact .inr (List.mem_flatMap.2 ⟨e.index, List.mem_filter.2 ⟨hmem, hlose⟩,
          mem_waitingFor.2 ⟨by rw [htrunk]; exact he, hw, rfl⟩⟩)
    have := lreaches.trans hreaches (s.enterLost_frame l).clock
      (fun r e he => by rw [hqueue] at he; exact (List.mem_filter.1 he).1) left
    rw [gone, if_pos ⟨l, List.mem_cons_self, hlost⟩]
    have same : (FlagSet.station ||| if ∃ k ∈ ls, (s.enterLost l).losing k = true then FlagSet.station else 0) =
        FlagSet.station := by split <;> decide
    rwa [same] at this

theorem LosesAmong.cons_not_losing {s t : State} {l : Station} {ls : List Station} (hkeep : s.losing l = false)
    (h : LosesAmong s t ls) : LosesAmong s t (l :: ls) := by
  obtain ⟨hframe, himage, hlimit, hqueue, hreaches⟩ := h
  have gone : s.goneAmong (l :: ls) = s.goneAmong ls := by simp [State.goneAmong_cons, hkeep]
  have among : ∀ k, (k ∈ l :: ls ∧ s.losing k = true) ↔ (k ∈ ls ∧ s.losing k = true) := fun k => by
    by_cases hk : k = l
    · subst hk; simp [hkeep]
    · simp [hk]
  refine ⟨hframe, fun k => ?_, fun k => ?_, fun r => ?_, ?_⟩
  · simp only [himage, gone, among]
  · rw [hlimit, gone]
  · rw [hqueue]
    refine List.filter_congr fun e _ => ?_
    by_cases he : e.index = l
    · simp [State.leaves, he, hkeep]
    · simp [State.leaves, he]
  · simp only [gone, among]
    exact hreaches

theorem State.rejudgeStales_loses {ls : List Station} (hls : ls.Nodup) (s : State) :
    LosesAmong s (ls.foldl State.rejudgeStale s) ls := by
  induction ls generalizing s with
  | nil =>
    refine ⟨(WorkFrame.refl s).table, fun k => by simp, fun k => by simp [State.goneAmong, clearedBy],
      fun r => by simp [State.leaves], ?_⟩
    simpa [State.goneAmong] using DropsReach.nil s
  | cons l ls ih =>
    obtain ⟨hl, hls⟩ := List.nodup_cons.1 hls
    rw [List.foldl_cons, State.rejudgeStale_eq]
    cases h : s.losing l with
    | true => exact .cons_losing hl h (ih hls _)
    | false => exact .cons_not_losing h (ih hls s)

/-! ## Both steps -/

theorem stations_nodup : stations.Nodup := List.nodup_finRange 120

/-- The entry is LOST by both steps: it is or becomes STALE, and has reached the hold limit. -/
def State.willLose (s : State) (l : Station) : Bool := s.onceStale l = .stale && s.ageReached l s.params.holdLimit

/-- The waiting entries of the stations that both steps take to LOST. -/
def State.goneByAge (s : State) : List CommandEntry :=
  (stations.filter s.willLose).flatMap fun l => waitingFor (s.queue (s.map l).trunk) l

/-- What the judgement of every entry against new limits leaves (R14). -/
theorem State.rejudge_loses (s : State) :
    TableFrame s s.rejudge
    ∧ (∀ l, s.rejudge.image l =
        if s.willLose l then
          { s.image l with state := .lost, override := (s.image l).override.map (refusedBy s.goneByAge l) }
        else { s.image l with state := s.onceStale l })
    ∧ (∀ r, s.rejudge.queue r =
        (s.queue r).filter fun e => !(e.waiting && s.willLose e.index && (s.map e.index).trunk == r))
    ∧ (∀ l, s.rejudge.limit l = clearedBy s.goneByAge l (s.limit l))
    ∧ DropsReach s.goneByAge (fun _ => []) (if ∃ l, s.willLose l = true then .station else 0) s s.rejudge := by
  obtain ⟨v, hv⟩ : ∃ v, v = stations.foldl State.rejudgeLive s := ⟨_, rfl⟩
  have himages : v = { s with images := v.images } := by rw [hv]; exact s.rejudgeLives_eq stations
  have himage : ∀ l, v.image l = { s.image l with state := s.onceStale l } := fun l => by
    rw [hv, State.rejudgeLives_image stations_nodup, if_pos (mem_stations l)]
  have hqueue : ∀ r, v.queue r = s.queue r := fun r => by rw [himages]; cases r <;> rfl
  have hmap : ∀ l, v.map l = s.map l := fun l => by rw [himages]; rfl
  have hlimit : ∀ l, v.limit l = s.limit l := fun l => by rw [himages]; rfl
  have hport : ∀ p, v.port p = s.port p := fun p => by rw [himages]; rfl
  have hclock : v.clock = s.clock := by rw [himages]
  have hparams : v.params = s.params := by rw [himages]; rfl
  have hlosing : ∀ l, v.losing l = s.willLose l := fun l => by
    simp [State.losing, State.willLose, State.ageReached, himage, hclock, hparams]
  have hgone : v.goneAmong stations = s.goneByAge := by
    simp only [State.goneAmong, State.goneByAge, funext hlosing, hqueue, hmap]
  obtain ⟨frame, image, limit, queue, reaches⟩ := State.rejudgeStales_loses stations_nodup v
  have hrejudge : stations.foldl State.rejudgeStale v = s.rejudge := by rw [hv]; rfl
  rw [hrejudge] at frame image limit queue reaches
  refine ⟨?_, fun l => ?_, fun r => ?_, fun l => ?_, ?_⟩
  · have : TableFrame s v := by rw [himages]; exact ⟨rfl, fun _ => rfl, fun _ => rfl⟩
    exact this.trans frame
  · simp only [image, mem_stations, true_and, hlosing, hgone, himage]
  · rw [queue, hqueue]
    refine List.filter_congr fun e _ => ?_
    simp [State.leaves, mem_stations, hlosing, hmap]
  · rw [limit, hgone, hlimit]
  · rw [hgone] at reaches
    simp only [mem_stations, true_and, hlosing] at reaches
    exact reaches.of_ports (fun p => (hport p).symm) hclock.symm

end Sys2Proof.Machine
end

/-! # Proofs: WRITE_PARAM -/

section
namespace Sys2Proof.Machine

theorem exec_writeParam {s : State} {p : PortId} {id v : Nat} {y : Params} (tag : Nat) (h : s.Configures p)
    (hw : s.params.write id v = some y) :
    exec (.writeParam p tag id v) s =
      .next ((((s.received p).setParams y).afterParam id).answers p
        (okResponse tag 0x32 (paramBytes id ((y.read id).getD 0)))) := by
  refine congrArg _ ((State.request_fourWrites s p tag 0x32 _ h).trans ?_)
  simp only [State.carryWriteParam, State.params_received, hw]
  rfl

theorem exec_writeParam_unknown {s : State} {p : PortId} {id v : Nat} (tag : Nat) (h : s.Configures p)
    (hw : s.params.write id v = none) :
    exec (.writeParam p tag id v) s = .next ((s.received p).answers p (codeResponse tag 0x32 .unknown)) := by
  refine congrArg _ ((State.request_fourWrites s p tag 0x32 _ h).trans ?_)
  simp only [State.carryWriteParam, State.params_received, hw]
  rfl

theorem Params.write_unknown {x : Params} {id v : Nat} (h : id = 0 ∨ 0x15 < id) : x.write id v = none := by
  unfold Params.write
  split <;> first | rfl | omega

theorem rateApplied_eq (v : Nat) :
    (if v < 19200 then 9600 else if v < 38400 then 19200 else if v < 57600 then 38400 else 57600) = rateApplied v := by
  unfold rateApplied
  split_ifs <;> omega

end Sys2Proof.Machine

open Sys2Proof.Machine in
/-- Settles O35, parameter by parameter. -/
theorem parametersAreClamped : Obligations.ParametersAreClamped := by
  intro p tag v s h x answers writes bandWrites within rate on
  have clamp : ∀ {lo hi}, lo ≤ hi → within lo hi = clampNat v lo hi := fun h => (clampNat_eq_max_min h v).symm
  have h60 : within 1 60 = clampNat v 1 60 := clamp (by omega)
  have h300 : within 10 300 = clampNat v 10 300 := clamp (by omega)
  have h15 : within 1 15 = clampNat v 1 15 := clamp (by omega)
  have h6000 : within 500 6000 = clampNat v 500 6000 := clamp (by omega)
  have h1500 : within 100 1500 = clampNat v 100 1500 := clamp (by omega)
  have hrate : rate = rateApplied v := rateApplied_eq v
  rw [h60, h300, h15, h6000, h1500, hrate]
  have param : ∀ {id y}, x.write id v = some y → _ := fun hw => exec_writeParam tag h hw
  exact ⟨param rfl, param rfl, param rfl, param rfl, param rfl, param rfl, param rfl, param rfl, param rfl, param rfl,
    param rfl, param rfl, param rfl, param rfl, param rfl, param rfl, param rfl, param rfl, param rfl,
    fun id hid => exec_writeParam_unknown tag h (Params.write_unknown hid)⟩

section
namespace Sys2Proof.Machine

theorem State.ageReached_eq (s : State) (l : Station) (age : Nat) :
    s.ageReached l age = ((s.image l).reading.map fun r => decide (r.goodAt + age * 115200 ≤ s.clock)).getD false := by
  unfold State.ageReached
  cases (s.image l).reading <;> rfl

/-- Where nothing is gone and no flag raised, the ports stand. -/
theorem DropsReach.ports_of_nil {s t : State} (h : DropsReach [] (fun _ => []) 0 s t) : t.ports = s.ports := by
  refine ports_ext fun q => ?_
  obtain ⟨f, hf, ⟨⟨-, hd | ⟨e, he, -⟩, -⟩, -⟩ | ⟨-, rfl⟩⟩ := dropsReach_iff.1 h q
  · exact absurd rfl hd
  · cases he
  · have : t.port q = s.port q := by simpa [droppedOutcomes, Port.raise] using hf
    exact this

end Sys2Proof.Machine
end

open Sys2Proof.Machine in
/-- Settles O36: a write of either limit is the judgement of every entry under the new parameters. -/
theorem newAgeLimitsRejudgeEntries : Obligations.NewAgeLimitsRejudgeEntries := by
  intro p tag v s h hs x judged
  have hold : x.staleAge + 5 ≤ 3600 := hs.2.2.2.1.1.trans hs.2.2.2.1.2
  have rejudged : ∀ y, judged y ((s.received p).setParams y).rejudge := fun y => by
    unfold judged
    extract_lets reached once lost gone
    have hreached : ∀ l age, ((s.received p).setParams y).ageReached l age = reached l age := fun l age =>
      State.ageReached_eq _ l age
    have honce : ∀ l, ((s.received p).setParams y).onceStale l = once l := fun l => by
      simp only [State.onceStale, hreached]; rfl
    have hlost : ∀ l, ((s.received p).setParams y).willLose l = lost l := fun l => by
      simp only [State.willLose, honce, hreached]; rfl
    have hgone : ((s.received p).setParams y).goneByAge = gone := by
      simp only [State.goneByAge, funext hlost, State.queue_setParams, State.queue_received]; rfl
    obtain ⟨frame, image, queue, limit, reaches⟩ := ((s.received p).setParams y).rejudge_loses
    simp only [hlost, hgone, honce] at image queue limit reaches
    refine ⟨frame, fun l => ⟨fun h => ?_, fun h => ?_⟩, fun l h q => ?_, fun r => ?_, limit,
      reaches.of_ports (fun q => by simp) rfl, fun h => ?_⟩
    · rw [image, if_pos h]; rfl
    · rw [image, h]; rfl
    · rw [if_pos ⟨l, h⟩] at reaches
      exact reaches.hasFlag q
    · rw [queue, State.queue_setParams, State.queue_received]; rfl
    · have nobody : (List.finRange 120).filter lost = [] := List.filter_eq_nil_iff.2 fun l _ => by simp [h]
      have nothing : gone = [] := by simp only [gone, nobody, List.flatMap_nil]
      have quiet : ¬∃ l, lost l = true := fun ⟨l, hl⟩ => by rw [h] at hl; cases hl
      rw [nothing, if_neg quiet] at reaches
      exact reaches.ports_of_nil
  refine ⟨⟨_, rejudged _, ?_⟩, ⟨_, rejudged _, ?_⟩⟩
  · rw [← clampNat_eq_max_min (show 5 ≤ 120 by omega)]
    exact exec_writeParam tag h rfl
  · rw [← clampNat_eq_max_min hold]
    exact exec_writeParam tag h rfl

end

/-! # Proofs: the reads -/

section
namespace Sys2Proof.Machine

/-! ## What taking the frame from the receiver leaves of the ports -/

@[simp] theorem State.received_port_profile (s : State) (p q : PortId) : ((s.received p).port q).profile = (s.port q).profile := by
  by_cases h : q = p <;> simp [h]

@[simp] theorem State.received_port_state (s : State) (p q : PortId) : ((s.received p).port q).state = (s.port q).state := by
  by_cases h : q = p <;> simp [h]

/-! ## A request that both profiles may issue -/

/-- A read that answers OK is carried out on the state without its frame, and changes nothing. -/
theorem exec_read {i : Instr} {s : State} {p : PortId} {tag code : Nat} {f : State → Carried} {payload : List Byte}
    (h : s.Opened p) (hi : exec i s = .next (s.request p tag code .open f))
    (hf : f (s.received p) = answerOk (s.received p) payload) :
    exec i s = .next ((s.received p).answers p (okResponse tag code payload)) := by
  rw [hi, State.request_open s p tag code f h, hf]; rfl

theorem exec_read_refused {i : Instr} {s : State} {p : PortId} {tag code : Nat} {f : State → Carried} {c : ResponseCode}
    (h : s.Opened p) (hi : exec i s = .next (s.request p tag code .open f))
    (hf : f (s.received p) = answerCode (s.received p) c) :
    exec i s = .next ((s.received p).answers p (codeResponse tag code c)) := by
  rw [hi, State.request_open s p tag code f h, hf]; rfl

/-! ## Payloads -/

theorem optByte_eq (n : Option Nat) : optByte n = byte (n.getD 255) := by cases n <;> rfl

theorem opt2_eq (n : Option Nat) : opt2 n = be2 (n.getD 65535) := by cases n <;> rfl

theorem State.statusBytes_received (s : State) (p : PortId) :
    (s.received p).statusBytes p = s.statusBytes p := by
  have own : ((s.received p).port p).bytes p = (s.port p).bytes p := by simp [Port.bytes]
  unfold State.statusBytes
  simp only [own, State.received_port_profile, State.received_port_state]
  rfl

theorem overrideBytes_none : overrideBytes none = List.replicate 5 255 := by decide

theorem overrideBytes_some (ov : Override) :
    overrideBytes (some ov) = [byte ov.owner.val, byte ov.item.code] ++ opt2 ov.value ++ [byte ov.delivery.code] := rfl

theorem readingBytes_some (r : Reading) :
    readingBytes (some r) = be2 r.q ++ be2 r.ts ++ be2 r.tr ++ be2 r.v ++ opt2 r.dp := rfl

theorem readingBytes_none : readingBytes none = List.replicate 10 255 := by decide

/-- The parameters in the order of their identifiers, from 0x01 on (R183). -/
def Params.values (y : Params) : List Nat :=
  [y.dispatchPeriod, y.limiterPeriod, y.staleAge, y.holdLimit, y.faultMisses, y.loss, y.sStart, y.sMin, y.sMax, y.stepUp,
    y.stepDown, y.deadband, y.dTmin, y.hysteresis, y.capfloor, y.capstep, y.rateA, y.rateB, y.haltOnCheckA.toNat,
    y.haltOnCheckB.toNat, y.autostart.toNat]

theorem Params.read_unknown {x : Params} {id : Nat} (h : id = 0 ∨ 0x15 < id) : x.read id = none := by
  unfold Params.read
  split <;> first | rfl | omega

theorem Params.read_succ {x : Params} {k v : Nat} (h : x.values[k]? = some v) : x.read (k + 1) = some v := by
  obtain ⟨hk, -⟩ := List.getElem?_eq_some_iff.1 h
  have hk : k < 21 := hk
  interval_cases k <;> exact h

end Sys2Proof.Machine

open Sys2Proof.Machine in
/-- Settles O7, read by read. -/
theorem readsOnlyAnswer : Obligations.ReadsOnlyAnswer := by
  unfold Obligations.ReadsOnlyAnswer
  extract_lets mark one two four onTrunk
  have hmark : mark = markByte := rfl
  have hone : one = optByte := funext fun n => (optByte_eq n).symm
  have htwo : two = opt2 := funext fun n => (opt2_eq n).symm
  have hfour : four = opt4 := funext fun n => by cases n <;> rfl
  have hTrunk : onTrunk = Trunk.bytes := funext fun y => by
    simp only [onTrunk, Trunk.bytes, hmark, hone, hfour]
    cases y.fault <;> rfl
  rw [hmark, hone, htwo, hfour, hTrunk]
  refine ⟨fun p tag s h => ⟨?_, fun l => ?_, fun n hn => ?_, fun t => ?_, fun n hn => ?_, ?_, fun k v hv => ?_, fun n hn => ?_,
    fun r hr => ?_, fun hr => ?_, fun r hr => ?_, fun hr => ?_, fun n hn => ?_⟩, fun v => ⟨rfl, rfl⟩, rfl, rfl, rfl, rfl, rfl,
    rfl, rfl, rfl, rfl, rfl, rfl, rfl, fun l => rfl, rfl, rfl, rfl, fun c d => rfl⟩
  · refine (exec_read h rfl (congrArg _ (s.statusBytes_received p))).trans ?_
    rfl
  · refine exec_read h rfl ?_
    rw [stationOf_val]
    refine congrArg (answerOk _) ?_
    rw [State.map_received, State.image_received, State.limit_received, stationBytes]
    cases (s.image l).reading <;> cases (s.image l).override <;>
      simp only [overrideBytes_none, overrideBytes_some, readingBytes_none, readingBytes_some, MapPart.bytes,
        List.append_assoc] <;> rfl
  · exact exec_read_refused h rfl (by simp only [stationOf_of_le hn])
  · refine exec_read h rfl ?_
    rw [trunkOf_trunkCode]
    refine congrArg (answerOk _) ?_
    have marks : ∀ e : CommandEntry, (!e.waiting) = e.stamp.isSome := fun e => by cases h : e.stamp <;> simp [CommandEntry.waiting, h]
    simp only [State.queue_received, CommandEntry.bytes, marks]
  · exact exec_read_refused h rfl (by simp only [trunkOf_of_le hn])
  · exact exec_read h rfl rfl
  · exact exec_read h rfl (by simp only [State.params_received, Params.read_succ (x := s.params) hv]; rfl)
  · exact exec_read_refused h rfl (by simp only [State.params_received, Params.read_unknown hn])
  · exact exec_read h rfl (by simp only [State.received_current, hr]; rfl)
  · exact exec_read_refused h rfl (by simp only [State.received_current, hr]; rfl)
  · exact exec_read h rfl (by simp only [State.received_previous, hr]; rfl)
  · exact exec_read_refused h rfl (by simp only [State.received_previous, hr]; rfl)
  · match n, hn with
    | n + 2, _ => exact exec_read_refused h rfl rfl

end

/-! # Proofs: WRITE_MAP -/

section
namespace Sys2Proof.Machine

theorem exec_writeMap {s : State} {p : PortId} {index flags trunk address qc dpmin mark : Nat} {r : Carried} (tag : Nat)
    (h : s.Configures p) (hr : (s.received p).carryWriteMap index flags trunk address qc dpmin mark = r) :
    exec (.writeMap p tag index flags trunk address qc dpmin mark) s =
      .next (r.1.answers p { tag := tag, request := 0x30, code := r.2.1, payload := r.2.2 }) := by
  subst hr
  exact congrArg _ (State.request_fourWrites s p tag 0x30 _ h)

/-- An index, a trunk or an address that there is not is refused BAD_INDEX (R2). -/
theorem State.carryWriteMap_badIndex {s : State} {index flags trunk address qc dpmin mark : Nat}
    (h : stationOf index = none ∨ trunkOf trunk = none ∨ addressAllowed address (flags.testBit 1) = false) :
    s.carryWriteMap index flags trunk address qc dpmin mark = answerCode s .badIndex := by
  unfold State.carryWriteMap
  split
  · rename_i l t hl ht
    rcases h with h | h | h
    · rw [hl] at h; cases h
    · rw [ht] at h; cases h
    · exact if_pos h
  · rfl

theorem addressAllowed_iff (address : Nat) (twin : Bool) :
    addressAllowed address twin = true ↔ 1 ≤ address ∧ address ≤ 62 ∧ (twin = true → address % 2 = 0 ∧ address ≠ 62) := by
  cases twin <;> simp [addressAllowed, isAddress, isTwinAddress, and_assoc]

theorem isBindingChange_iff (old new : MapPart) :
    isBindingChange old new = true ↔ old.enabled ≠ new.enabled
      ∨ (new.enabled = true ∧ (old.trunk ≠ new.trunk ∨ old.address ≠ new.address ∨ old.twin ≠ new.twin)) := by
  simp [isBindingChange, or_assoc]

/-- Candidates at the addresses just bound are gone, and where there were any the overflow mark is clear (R139). -/
theorem State.removeBoundCandidates_eq (s : State) (m : MapPart) {gone : Candidate → Bool}
    (hgone : ∀ c, gone c = true ↔ c.trunk = m.trunk ∧ c.address ∈ m.addresses) :
    s.removeBoundCandidates m =
      { s with candidates := s.candidates.filter (!gone ·), overflow := s.overflow && !s.candidates.any gone } := by
  obtain rfl : gone = fun c => c.trunk == m.trunk && m.addresses.contains c.address :=
    funext fun c => Bool.eq_iff_iff.2 ((hgone c).trans (by simp))
  unfold State.removeBoundCandidates
  dsimp only
  split
  · rename_i h
    rw [h, Bool.not_true, Bool.and_false]
  · rename_i h
    have h := Bool.eq_false_iff.2 h
    rw [h, Bool.not_false, Bool.and_true, List.filter_eq_self.2]
    exact fun c hc => Bool.not_eq_true' _ ▸ Bool.eq_false_iff.2 (List.any_eq_false.1 h c hc)

theorem State.writeMap_eq (s : State) (l : Station) (m : MapPart) :
    s.writeMap l m =
      (if isBindingChange (s.map l) m = true then s.bindingChange l m else s.setMap l m).removeBoundCandidates m := rfl

theorem State.bindingChange_candidates (s : State) (l : Station) (m : MapPart) :
    (s.bindingChange l m).candidates = s.candidates ∧ (s.bindingChange l m).overflow = s.overflow := by
  have h := (s.bindingChange_frame l m).1
  rw [h]; exact ⟨rfl, rfl⟩

end Sys2Proof.Machine
end

open Sys2Proof.Machine in
/-- Settles O32, by the refusals in their order and then by whether the binding changes. -/
theorem mapWritesAreJudged : Obligations.MapWritesAreJudged := by
  intro p tag index flags trunk address qc dpmin mark s h answered
  refine ⟨fun hi => ?_, fun hbad => ?_, fun l t hi ht ha1 ha62 htwin => ?_⟩
  · exact exec_writeMap tag h (State.carryWriteMap_badIndex (.inl (stationOf_of_le hi)))
  · refine exec_writeMap tag h (State.carryWriteMap_badIndex (.inr ?_))
    by_cases htrunk : 2 ≤ trunk
    · exact .inl (trunkOf_of_le htrunk)
    · refine .inr (Bool.eq_false_iff.2 fun hallowed => ?_)
      obtain ⟨h1, h2, h3⟩ := (addressAllowed_iff _ _).1 hallowed
      rcases hbad with hbad | hbad | hbad | ⟨hbit, hbad⟩
      · exact htrunk hbad
      · omega
      · omega
      · have := h3 hbit; omega
  · extract_lets m shared old rebinds gone listed
    subst hi ht
    have hallowed : addressAllowed address (flags.testBit 1) = true := (addressAllowed_iff _ _).2 ⟨ha1, ha62, htwin⟩
    have hunique : (m.enabled = true ∧ (s.received p).isUnique l m = false) ↔ shared := by
      rw [← Bool.not_eq_true, State.isUnique_iff]
      refine and_congr_right fun _ => ?_
      push Not
      exact exists_congr fun k => and_congr_right fun _ => and_congr_right fun _ => exists_congr fun a => and_comm
    have hcarry : (s.received p).carryWriteMap l.val flags (trunkCode t) address qc dpmin mark =
        if m.enabled = true ∧ (s.received p).isUnique l m = false then answerCode (s.received p) .duplicate
        else answerOk ((s.received p).writeMap l m) m.bytes := by
      unfold State.carryWriteMap
      rw [stationOf_val, trunkOf_trunkCode]
      exact if_neg fun hno => Bool.noConfusion (hallowed.symm.trans hno)
    refine ⟨fun hs => ?_, fun hs => ?_⟩
    · exact exec_writeMap tag h (hcarry.trans (if_pos (hunique.2 hs)))
    · refine (exec_writeMap tag h (hcarry.trans (if_neg (mt hunique.1 hs)))).trans ?_
      have hlisted : ∀ u : State, u.candidates = s.candidates → u.overflow = s.overflow → u.removeBoundCandidates m = listed u :=
        fun u hc ho => by
          rw [State.removeBoundCandidates_eq (gone := gone) u m fun c => decide_eq_true_iff, hc, ho]
      have hwrite : (s.received p).writeMap l m =
          listed (if rebinds then (s.received p).bindingChange l m else (s.received p).setMap l m) := by
        rw [State.writeMap_eq]
        by_cases hb : rebinds
        · rw [if_pos ((isBindingChange_iff ((s.received p).map l) m).2 hb), if_pos hb]
          obtain ⟨hc, ho⟩ := (s.received p).bindingChange_candidates l m
          exact hlisted _ hc ho
        · rw [if_neg (mt (isBindingChange_iff ((s.received p).map l) m).1 hb), if_neg hb]
          exact hlisted _ rfl rfl
      rw [← hwrite]; rfl


/-! # Proofs: resets -/

section
namespace Sys2Proof.Machine

theorem comesUp_eq (x : Params) (sched : Schedule) : comesUp x sched = (x.autostart && decide (∃ k, inSweep sched k)) := by
  have : ((List.finRange 96).any fun i => (sched.get i).length != 0) = decide (∃ k, inSweep sched k) := by
    rw [Bool.eq_iff_iff]; simp [inSweep]
  rw [comesUp, this]

/-- A copy that is written whole stays valid through a reset unless a save in progress was cut short (R175, R176). -/
theorem State.copyValid_afterCut {s t : State} (hcopy : t.copy = s.copy) (hcheck : t.copyCheck = s.copyCheck)
    (hwhole : t.copyWhole = (s.copyWhole && s.saving.isNone)) : t.copyValid = (s.copyValid && s.saving.isNone) := by
  rw [State.copyValid, State.copyValid, hcopy, hcheck, hwhole, Bool.and_right_comm]

/-! ## While the module is held in reset -/

theorem State.take_unpowered {s : State} (hp : s.powered = false) (p : PortId) (tag code : Nat)
    (gate : State → PortId → Option ResponseCode) (restarts : Bool) (f : State → Carried) :
    s.take p tag code gate restarts f = s := if_neg (by simp [hp])

/-- Every meaning but those of the two sides of a reset asks whether the module is powered. -/
theorem exec_unpowered {i : Instr} {s : State} (hp : s.powered = false) (hi : i ≠ .resetAsserted)
    (hf : ∀ p0 p1 p2 p3, i ≠ .fullReset p0 p1 p2 p3) : exec i s = .next s := by
  have off : ¬s.powered = true := by simp [hp]
  have offAnd : ∀ {q : Prop}, ¬(s.powered = true ∧ q) := fun h => off h.1
  cases i with
  | fullReset p0 p1 p2 p3 => exact absurd rfl (hf p0 p1 p2 p3)
  | resetAsserted => exact absurd rfl hi
  | requestDiscarded p => simp only [exec, execRequestDiscarded, if_neg off]
  | responseComplete p => simp only [exec, execResponseComplete, if_neg off]; split <;> rfl
  | saveComplete => simp only [exec, execSaveComplete, if_neg off]; split <;> rfl
  | longWindowExpiry p => simp only [exec, execLongWindowExpiry, if_neg offAnd]; split <;> rfl
  | refreshWindowExpiry p => simp only [exec, execRefreshWindowExpiry, if_neg offAnd]; split <;> rfl
  | dispatchExpiry => simp only [exec, execDispatchExpiry, if_neg off]
  | limiterExpiry => simp only [exec, execLimiterExpiry, if_neg off]
  | staleAgeExpiry l => simp only [exec, execStaleAgeExpiry, if_neg off]; split <;> rfl
  | holdLimitExpiry l => simp only [exec, execHoldLimitExpiry, if_neg off]; split <;> rfl
  | slotStart t => simp only [exec, execSlotStart, if_neg offAnd]
  | requestSent t => simp only [exec, execRequestSent, if_neg offAnd]; split <;> rfl
  | replyTimeout t => simp only [exec, execReplyTimeout, if_neg offAnd]; split <;> [split; skip] <;> rfl
  | replyClosed t => simp only [exec, execReplyClosed, if_neg offAnd]; split <;> [(split <;> [split; skip]); skip] <;> rfl
  | pairExchangeEnd t => simp only [exec, execPairExchangeEnd, if_neg offAnd]; split <;> [split; skip] <;> rfl
  | rollcallEnd t => simp only [exec, execRollcallEnd, if_neg offAnd]; split <;> [split; skip] <;> rfl
  | withheldExchangeEnd t => simp only [exec, execWithheldExchangeEnd, if_neg offAnd]; split <;> rfl
  | txStuck t => simp only [exec, execTxStuck, if_neg offAnd]
  | echoLost t => simp only [exec, execEchoLost, if_neg offAnd]
  | lineHeldSet t => simp only [exec, execLineHeldSet, if_neg offAnd]
  | lineHeldCleared t => simp only [exec, execLineHeldCleared, if_neg offAnd]
  | portByteReceived p b => simp only [exec, execPortByteReceived, if_neg off]
  | trunkByteReceived t b ok =>
    simp only [exec, execTrunkByteReceived, if_neg off]; split <;> [split; skip] <;> rfl
  | _ => exact congrArg _ (State.take_unpowered hp _ _ _ _ _ _)

/-! ## RESTART (R179) -/

theorem State.port_networkReset (s : State) (q : PortId) :
    s.networkReset.port q =
      { s.port q with
        flags := (s.port q).flags ||| .restart
          ||| (if (s.trunk .a).state = .stopping ∨ (s.trunk .b).state = .stopping then FlagSet.trunk else 0) } := by
  unfold State.networkReset
  dsimp only
  by_cases h : (s.trunk .a).state = .stopping ∨ (s.trunk .b).state = .stopping
  · have h' : s.trunkA.state = .stopping ∨ s.trunkB.state = .stopping := h
    rw [if_pos h, if_pos h']
    simp only [State.raiseAll_eq, State.port_eachPort]; rfl
  · have h' : ¬(s.trunkA.state = .stopping ∨ s.trunkB.state = .stopping) := h
    rw [if_neg h, if_neg h']
    simp only [State.raiseAll_eq, State.port_eachPort]
    exact congrArg (fun f => { s.port q with flags := f }) (BitVec.or_zero (x := (s.port q).flags ||| .restart)).symm

/-- The network reset in all it writes but the ports. -/
theorem State.networkReset_eq (s : State) :
    s.networkReset =
      { s with
        images := tabulate 120 fun l => Image.atReset (s.map l).enabled
        limits := Vector.replicate 120 LimitEntry.cleared
        trunkA := s.trunkA.restarted, trunkB := s.trunkB.restarted
        candidates := [], overflow := false, refusedA := [], refusedB := []
        offers := Vector.replicate 4 none
        current := none, previous := none, sequence := 0
        setpoint := s.params.startSetpoint
        mode := .starting, clearMark := false
        dispatchDue := s.clock + s.params.dispatchPeriod * ticksPerSecond
        limiterDue := s.clock + s.params.limiterPeriod * ticksPerSecond
        ports := s.networkReset.ports } := by
  unfold State.networkReset
  dsimp only
  split <;> rfl

theorem State.nextResponse_eq (s : State) (p : PortId) :
    s.nextResponse p = s.setPort p
      { s.port p with
        owedBusy := none
        sending := (s.port p).owedBusy.map fun owed =>
          { response := codeResponse owed.1 owed.2 .busy, endAt := s.clock + 80, restarts := false } } := by
  unfold State.nextResponse
  cases h : (s.port p).owedBusy with
  | none => simp only [State.modifyPort_eq, Option.map_none]; rw [← h]
  | some owed => simp only [State.modifyPort_eq, State.send_eq, State.port_setPort, if_true, State.setPort_setPort]; rfl

/-- The end of a RESTART's response. -/
theorem exec_responseComplete_restarts {s : State} {p : PortId} {x : Sending} (hp : s.powered = true)
    (hx : (s.port p).sending = some x) (hr : x.restarts = true) :
    exec (.responseComplete p) s = .next ((s.await x.endAt).networkReset.nextResponse p) := by
  simp only [exec, execResponseComplete, hx, hp, hr, if_true]

/-! ## The value of the settings and of the ports at start-up -/

/-- A replicated table holds its value at every index. -/
theorem replicate_get {α : Type} (n : Nat) (a : α) (i : Fin n) : (Vector.replicate n a).get i = a := by
  simp [Vector.get_eq_getElem]

theorem strapOf_eq_get (p0 p1 p2 p3 : Profile) (p : PortId) : strapOf p0 p1 p2 p3 p = #v[p0, p1, p2, p3].get p := by
  match p with
  | 0 | 1 | 2 | 3 => rfl

/-- Where no copy is good, the working settings are the defaults (R177). -/
theorem State.startUp_work_default {s : State} {strap : PortId → Profile} (h : (s.copyValid && s.saving.isNone) = false) :
    (s.startUp strap).work = Settings.default := if_neg (by simp [h])

end Sys2Proof.Machine
end

open Sys2Proof.Machine in
/-- Settles O38: start-up field by field, the held reset, and the commands while the module is held. -/
theorem fullResetAndHeldReset : Obligations.FullResetAndHeldReset := by
  refine ⟨fun s p0 p1 p2 p3 => ?_, fun s => ?_, fun i s hp hi hf => exec_unpowered hp hi hf⟩
  · extract_lets valid work up fresh
    have hup : ∀ sched, comesUp work.params sched = up sched := fun sched => comesUp_eq _ _
    refine ⟨s.startUp (strapOf p0 p1 p2 p3), rfl, rfl, rfl, rfl, rfl, rfl, rfl, rfl, State.copyValid_afterCut rfl rfl rfl, rfl,
      fun hv => ?_, fun l => tabulate_get .., fun l => replicate_get .., ?_, ?_, rfl, rfl, rfl, rfl,
      fun p => replicate_get .., rfl, rfl, rfl, rfl, rfl, rfl, rfl, rfl, fun p => ?_, rfl, rfl⟩
    · have hwork : (s.startUp (strapOf p0 p1 p2 p3)).work = Settings.default := State.startUp_work_default hv
      refine ⟨fun l => ?_, fun r k => ?_, ?_⟩
      · rw [State.map, hwork]; exact replicate_get ..
      · cases r <;> rw [State.schedule, hwork] <;> exact replicate_get ..
      · rw [State.params, hwork]; rfl
    · rw [← hup]; rfl
    · rw [← hup]; rfl
    · exact (tabulate_get ..).trans (by rw [strapOf_eq_get]; rfl)
  · refine ⟨_, rfl, rfl, rfl, rfl, rfl, rfl, State.copyValid_afterCut rfl rfl rfl, fun r => by cases r <;> rfl,
      fun p => ⟨State.port_eachPort .., rfl⟩⟩

open Sys2Proof.Machine in
/-- Settles O39: RESTART's answer, and the network reset with the end of it. -/
theorem restartResetsTheNetwork : Obligations.RestartResetsTheNetwork := by
  refine ⟨fun p tag s h => congrArg _ (s.take_restart p tag h), fun p s x hp hx hr => ?_⟩
  extract_lets now stops
  have hreset := State.networkReset_eq (s.await x.endAt)
  have hclock : (s.await x.endAt).networkReset.clock = now := congrArg State.clock hreset
  have hnext := State.nextResponse_eq (s.await x.endAt).networkReset p
  refine ⟨_, exec_responseComplete_restarts hp hx hr, ?_⟩
  rw [hnext]
  refine ⟨fun r => ?_, fun l => ?_, fun l => ?_, fun q => ?_, fun q => ?_, ?_⟩
  · rw [State.trunk_setPort, hreset]; cases r <;> rfl
  · rw [State.limit_setPort, hreset]; exact replicate_get ..
  · rw [State.image_setPort, hreset]; exact tabulate_get ..
  · rw [State.offer_setPort, hreset]; exact replicate_get ..
  · rw [State.port_setPort, hclock, State.port_networkReset, State.port_networkReset]
    by_cases hq : q = p
    · subst hq; simp only [if_true]; rfl
    · simp only [if_neg hq]; rfl
  · rw [hreset]; rfl

/-! # Proofs: frames heard on a trunk and the judgement of a reply -/

section
namespace Sys2Proof.Machine

/-! ## Frames (R85) -/

/-- Bytes with gaps below 16 bit-times extend the newest frame while it has room. -/
theorem addBytes_extend {bt : Nat} {h : HeardByte} {hs : List HeardByte} {f : HeardFrame}
    (hend : f.endAt = h.start + 10 * bt) (hroom : f.bytes.length + hs.length ≤ 255)
    (hchain : (h :: hs).IsChain (fun a b => b.start < a.start + 26 * bt)) :
    hs.foldl (addByte bt) [f] =
      [{ start := f.start, endAt := ((h :: hs).getLast (by simp)).start + 10 * bt
         bytes := f.bytes ++ hs.map (·.value), stopsOk := f.stopsOk && hs.all (·.stopOk) }] := by
  induction hs generalizing h f with
  | nil => simp [← hend]
  | cons k hs ih =>
    obtain ⟨hgap, hchain⟩ := List.isChain_cons_cons.1 hchain
    rw [List.length_cons] at hroom
    have hext : f.bytes.length < 255 ∧ k.start < f.endAt + 16 * bt := by omega
    rw [List.foldl_cons, addByte, if_pos hext, ih (h := k) rfl (by simp; omega) hchain]
    simp [Bool.and_assoc]

/-- The newest frame ends with the newest byte. -/
theorem framesOf_endAt {bt : Nat} {before : List HeardByte} {h : HeardByte} {f : HeardFrame}
    (hf : (framesOf bt (before ++ [h])).getLast? = some f) : f.endAt = h.start + 10 * bt := by
  rw [framesOf, List.foldl_append, List.getLast?_reverse] at hf
  cases k : before.foldl (addByte bt) [] with
  | nil => rw [k] at hf; cases hf; rfl
  | cons g gs =>
    rw [k, List.foldl_cons, addByte] at hf
    split at hf <;> cases hf <;> rfl

/-! ## The judgement (R90, R182) -/

theorem judgeReply_wrongLength {α : Type} {n : Nat} (identify : List Byte → Option α) {f : HeardFrame} (h : f.bytes.length ≠ n) :
    judgeReply n identify f = .wrongLength := if_pos h

section
variable {α : Type} {identify : List Byte → Option α} {f : HeardFrame} {sync check : Byte} {body : List Byte}

/-- A frame of the right length comes down to its check byte and then its identity. -/
theorem judgeReply_eq (identify : List Byte → Option α) (hf : f.bytes = sync :: body ++ [check]) :
    judgeReply (body.length + 2) identify f =
      if check = crc8 body then ((identify (sync :: body)).filter fun _ => f.stopsOk).elim .wrongAddress .accepted
      else .badCheck := by
  have hlength : ¬f.bytes.length ≠ body.length + 2 := by simp [hf]
  have hlast : f.bytes.getLast? = some check := by rw [hf]; exact List.getLast?_concat ..
  have hdrop : f.bytes.dropLast = sync :: body := by rw [hf]; exact List.dropLast_concat ..
  rw [judgeReply, if_neg hlength, hlast, hdrop]
  by_cases hcheck : check = crc8 body
  · rw [if_pos hcheck, if_neg (by simp [hcheck])]
    cases identify (sync :: body) with
    | none => rfl
    | some a => cases f.stopsOk <;> rfl
  · rw [if_neg hcheck, if_pos (by simpa using hcheck)]

theorem judgeReply_badCheck (identify : List Byte → Option α) (hf : f.bytes = sync :: body ++ [check]) (h : check ≠ crc8 body) :
    judgeReply (body.length + 2) identify f = .badCheck := by
  rw [judgeReply_eq identify hf, if_neg h]

theorem judgeReply_wrongAddress (hf : f.bytes = sync :: body ++ [check]) (h : check = crc8 body)
    (hi : ∀ a, identify (sync :: body) = some a → f.stopsOk ≠ true) :
    judgeReply (body.length + 2) identify f = .wrongAddress := by
  rw [judgeReply_eq identify hf, if_pos h]
  cases k : identify (sync :: body) with
  | none => rfl
  | some a => simp [hi a k]

theorem judgeReply_accepted {a : α} (hf : f.bytes = sync :: body ++ [check]) (h : check = crc8 body)
    (hi : identify (sync :: body) = some a) (hs : f.stopsOk = true) :
    judgeReply (body.length + 2) identify f = .accepted a := by
  rw [judgeReply_eq identify hf, if_pos h, hi, hs]; rfl

end

/-- The values of a data reply, clamped (R5). -/
theorem DataReply.reading_eq (d : DataReply) (n : Nat) :
    d.reading n =
      { q := min d.q 4000, ts := min d.ts 4000, tr := min d.tr 4000, v := min d.v 1000
        dp := if d.dp = 65535 then none else some (min d.dp 6000)
        clamped := decide (4000 < d.q ∨ 4000 < d.ts ∨ 4000 < d.tr ∨ 1000 < d.v ∨ (6000 < d.dp ∧ d.dp ≠ 65535)), goodAt := n } := by
  unfold DataReply.reading absentAt65535
  congr 1
  · split <;> rfl
  · rw [Bool.eq_iff_iff]
    simp [or_assoc, and_comm]

end Sys2Proof.Machine
end

open Sys2Proof Sys2Proof.Machine in
/-- Settles O49: the frames by how they grow, the replies by `judgeReply`. -/
theorem repliesAreJudgedInOrder : Obligations.RepliesAreJudgedInOrder := by
  refine ⟨fun bt h hs hlen hchain => ?_, fun bt h k before rest hgap => ?_, fun bt f before rest hf hfull => ?_,
    fun f address asked item => ⟨fun h => judgeReply_wrongLength _ h, fun h => judgeReply_wrongLength _ h, ?_, ?_, fun d => ?_⟩⟩
  · have : hs.foldl (addByte bt) [h.frame bt] = _ := addBytes_extend rfl (by simp [HeardByte.frame]; omega) hchain
    rw [framesOf, List.foldl_cons, addByte, this]; rfl
  · have := framesOf_append (bt := bt) (before := before ++ [h]) (rest := rest) (b := k) fun f hf => by
      have := framesOf_endAt hf
      omega
    rwa [List.append_assoc] at this
  · cases rest with
    | nil => simp [framesOf]
    | cons b rest =>
      exact framesOf_append fun g hg => .inl (by rw [hf] at hg; cases hg; exact hfull.ge)
  · intro sync own kind asks st q1 q0 a1 a0 b1 b0 v1 v0 d1 d0 check body d right hf
    have hid : identifyData address asked (sync :: body) =
        if sync = 0xA7 ∧ own = byte address ∧ kind = 0x11 ∧ asks = asked then some d else none := rfl
    refine ⟨fun h => judgeReply_badCheck _ hf h, fun h hr => judgeReply_wrongAddress hf h fun a ha hs => ?_, fun h hr => ?_⟩
    · rw [hid] at ha
      split at ha
      · rename_i h'
        exact hr ⟨h'.1, h'.2.1, h'.2.2.1, h'.2.2.2, hs⟩
      · cases ha
    · obtain ⟨h1, h2, h3, h4, hs⟩ := hr
      exact judgeReply_accepted hf h (hid.trans (if_pos ⟨h1, h2, h3, h4⟩)) hs
  · intro sync own kind asks reason st check body right hf
    have hid : identifyCommand address item (sync :: body) =
        if sync = 0xA7 ∧ own = byte address ∧ (kind = 0x12 ∨ kind = 0x13) ∧ asks = byte item.code
        then some { ack := kind = 0x12, status := BitVec.ofNat 5 st.toNat } else none := rfl
    refine ⟨fun h => judgeReply_badCheck _ hf h, fun h hr => judgeReply_wrongAddress hf h fun a ha hs => ?_, fun h hr => ?_⟩
    · rw [hid] at ha
      split at ha
      · rename_i h'
        exact hr ⟨h'.1, h'.2.1, h'.2.2.1, h'.2.2.2, hs⟩
      · cases ha
    · obtain ⟨h1, h2, h3, h4, hs⟩ := hr
      exact judgeReply_accepted hf h (hid.trans (if_pos ⟨h1, h2, h3, h4⟩)) hs
  · intro dp clamped
    refine ⟨fun h => if_pos h, fun h => ?_⟩
    exact (if_neg (by rw [show d.status.sensorFault = false from h]; exact Bool.false_ne_true)).trans
      (congrArg (StationResult.good · d.status) (d.reading_eq f.endAt))

/-! # Proofs: the result of a command exchange -/

section
namespace Sys2Proof.Machine

/-- The only member that a test picks is where `findIdx` finds it. -/
theorem findIdx_of_countP_le_one {α : Type} {p : α → Bool} {q : List α} {i : Nat} {a : α}
    (h1 : q.countP p ≤ 1) (hi : q[i]? = some a) (ha : p a = true) : q.findIdx p = i := by
  induction q generalizing i with
  | nil => cases hi
  | cons b q ih =>
    rw [List.countP_cons] at h1
    cases i with
    | zero => cases hi; simp [List.findIdx_cons, ha]
    | succ i =>
      have hpos : 0 < q.countP p := List.countP_pos_iff.2 ⟨a, List.mem_of_getElem? hi, ha⟩
      have hb : p b = false := by
        by_contra hb
        rw [if_pos (by simpa using hb)] at h1
        omega
      rw [List.findIdx_cons, hb, ih (by omega) hi]
      rfl

/-- In a sound queue the entry in flight is the first, and the only, stamped one. -/
theorem QueueSound.findIdx_inFlight {q : List CommandEntry} {i : Nat} {e : CommandEntry} (h : QueueSound q) (hi : q[i]? = some e)
    (he : e.waiting = false) : q.findIdx (fun d => !d.waiting) = i := by
  obtain ⟨-, -, hone, -⟩ := h
  exact findIdx_of_countP_le_one hone hi (by simp [he])

/-! ## The two ways an entry in flight goes on (R124 to R127) -/

section
variable {s : State} {t : TrunkId} {i : Nat} {e : CommandEntry}

theorem State.inFlight_of_sound (hq : QueueSound (s.queue t)) (hi : (s.queue t)[i]? = some e) (he : e.waiting = false) :
    s.inFlight t = some e := by
  rw [State.inFlight, List.find?_eq_getElem?_findIdx, hq.findIdx_inFlight hi he, hi]

theorem State.endInFlight_of_sound (hq : QueueSound (s.queue t)) (hi : (s.queue t)[i]? = some e) (he : e.waiting = false)
    (o : CommandEnd) : s.endInFlight t e o = (s.setQueue t ((s.queue t).eraseIdx i)).deliver e o := by
  rw [State.endInFlight, hq.findIdx_inFlight hi he]

theorem State.setInFlight_of_sound (hq : QueueSound (s.queue t)) (hi : (s.queue t)[i]? = some e) (he : e.waiting = false)
    (n : CommandEntry) : s.setInFlight t n = s.setQueue t ((s.queue t).set i n) := by
  rw [State.setInFlight, replaceFirst, hq.findIdx_inFlight hi he]

end

/-- With no newer waiting entry of its key the entry waits again in its own place. -/
theorem State.waitAgain_of_none {s : State} {t : TrunkId} {e : CommandEntry}
    (h : ∀ w ∈ s.queue t, waitingKey e.index e.item w = false) : s.waitAgain t e = s.setInFlight t e.backToWaiting := by
  rw [State.waitAgain, find_none_of h]

section
variable {s : State} {t : TrunkId} {e : CommandEntry} {st : CommandStamp} {r : Option CommandReply}

theorem State.commandResult_of_old (hf : s.inFlight t = some e) (hst : e.stamp = some st)
    (h : st.generation ≠ (s.image e.index).generation) : s.commandResult t r = s.endInFlight t e .dropped := by
  simp only [State.commandResult, hf, hst]
  exact if_pos (by simpa using h)

theorem State.commandResult_of_current (hf : s.inFlight t = some e) (hst : e.stamp = some st)
    (h : st.generation = (s.image e.index).generation) : s.commandResult t r = s.commandTaken t e r := by
  simp only [State.commandResult, hf, hst]
  exact if_neg (by simpa using h)

end

/-- A reply that carries no status to be stored. -/
theorem State.storePoll_of_ne (s : State) {e : CommandEntry} (h : e.item ≠ .poll) (status : StatusSet) :
    s.storePoll e status = s := by
  unfold State.storePoll
  split
  · rename_i hp; exact absurd hp h
  · rfl
  · rfl

theorem State.storePoll_poll {s : State} {e : CommandEntry} (h : e.item = .poll) (hx : (s.image e.index).state ≠ .unbound)
    (status : StatusSet) : s.storePoll e status = s.setImage e.index { s.image e.index with status := some status } := by
  simp only [State.storePoll, h, if_neg hx]
  rfl

theorem CommandEntry.evenAcknowledged_eq (e : CommandEntry) (status : StatusSet) :
    e.evenAcknowledged status =
      { e with evenDone := true, attempts := 0, evenStatus := if e.item = .poll then some status else none } := by
  unfold CommandEntry.evenAcknowledged
  congr 1
  cases e.item <;> rfl

end Sys2Proof.Machine
end

open Sys2Proof.Machine in
/-- Settles O51, by the generation, then by miss or reply and by the half of the station. -/
theorem commandResultsEndOrKeepTheEntry : Obligations.CommandResultsEndOrKeepTheEntry := by
  intro s t i e st hq hi hst x ended stays
  have he : e.waiting = false := by simp [CommandEntry.waiting, hst]
  have hf : s.inFlight t = some e := State.inFlight_of_sound hq hi he
  have hends : ∀ o, s.endInFlight t e o = ended s o := State.endInFlight_of_sound hq hi he
  have hstays : ∀ n, s.setInFlight t n = stays n := State.setInFlight_of_sound hq hi he
  refine ⟨fun hold r => (State.commandResult_of_old hf hst hold).trans (hends _), fun hnow => ?_⟩
  have htaken : ∀ r, s.commandResult t r = s.commandTaken t e r := fun r => State.commandResult_of_current hf hst hnow
  have hmiss : s.commandResult t none = s.chargeMiss t e := htaken none
  refine ⟨fun h2 => ?_, fun h2 heven => ?_, fun h2 heven hnone => ?_, fun r => ?_⟩
  · exact (hmiss.trans (if_pos (by simp [h2]))).trans (hends _)
  · exact (hmiss.trans ((if_neg (by simp; omega)).trans (if_pos heven))).trans (hstays _)
  · refine (hmiss.trans ((if_neg (by simp; omega)).trans (if_neg (by simp [heven])))).trans ?_
    exact (State.waitAgain_of_none (e := { e with attempts := e.attempts + 1 }) hnone).trans (hstays _)
  · intro final
    refine ⟨fun heven htwin => ?_, fun hlast => ?_⟩
    · have htwice : s.commandResult t (some r) =
          if r.ack then s.setInFlight t (e.evenAcknowledged r.status) else s.endInFlight t e .refused :=
        (htaken _).trans (if_pos ⟨heven, htwin⟩)
      refine ⟨fun ha => ?_, fun ha => ?_⟩
      · rw [htwice, if_pos ha, hstays, CommandEntry.evenAcknowledged_eq]
      · rw [htwice, ha, if_neg Bool.false_ne_true, hends]
    · have hend : s.commandResult t (some r) = s.commandEnds t e r :=
        (htaken _).trans (if_neg fun h => by rcases hlast with h' | h' <;> simp [h'] at h)
      refine ⟨fun hitem => ?_, fun hitem hx => ?_⟩
      · rw [hend, State.commandEnds, State.storePoll_of_ne s hitem, hends]
      · intro status
        rw [hend, State.commandEnds, State.storePoll_poll hitem hx]
        exact State.endInFlight_of_sound (s := s.setImage e.index { x with status := some (e.bothStatus r.status) })
          (i := i) (by simpa using hq) (by simpa using hi) he _ |>.trans (by simp [ended]; rfl)

/-! # Proofs: the image table, the limiter entries and what ports own -/

section
namespace Sys2Proof.Machine

/-! ## The laws, for given LIVE ports

While a port leaves LIVE its overrides are released one by one, so the laws are stated for a set of LIVE ports that need not be
the state's own. -/

/-- The profile and the state of each port. -/
def State.who (s : State) (p : PortId) : Profile × PortState := ((s.port p).profile, (s.port p).state)

/-- The port is a LIVE one of the profile. -/
def LiveIn (who : PortId → Profile × PortState) (p : PortId) (f : Profile) : Prop := who p = (f, .live)

/-- The laws of one table entry: its image part, its limiter entry and the owner of its override. -/
structure EntrySound (live : PortId → Profile → Prop) (enabled : Bool) (x : Image) (y : LimitEntry) : Prop where
  image : x.Sound enabled
  limit : y.Sound
  clear : x.state = .unbound ∨ x.override.isSome = true → y.state = .none
  owner : ∀ ov ∈ x.override, live ov.owner .operator

/-- The laws of the table and of the offers, for the LIVE ports given, with what the ports are. -/
structure State.TablesFor (live : PortId → Profile → Prop) (who : PortId → Profile × PortState) (s : State) : Prop where
  entry : ∀ l, EntrySound live (s.map l).enabled (s.image l) (s.limit l)
  offer : ∀ p, ∀ o ∈ s.offer p, o.inRange = true ∧ live p .plant
  ports : s.who = who

/-- The laws of the table and of the offers, for the state's own LIVE ports. -/
abbrev State.TablesSound (s : State) : Prop := s.TablesFor (LiveIn s.who) s.who

theorem State.liveIn_who {s : State} {p : PortId} {f : Profile} :
    LiveIn s.who p f ↔ (s.port p).profile = f ∧ (s.port p).state = .live := Prod.mk.injEq .. ▸ Iff.rfl

theorem State.tablesSound_iff (s : State) : s.TablesSound ↔ s.ImagesSound ∧ s.OwnersSound := by
  refine ⟨fun ⟨hentry, hoffer, _⟩ => ⟨fun l => ?_, fun p o ho => ?_, fun l ov ho => ?_⟩,
    fun ⟨himages, hoffer, howner⟩ => ⟨fun l => ?_, fun p o ho => ?_, rfl⟩⟩
  · exact ⟨(hentry l).image, (hentry l).limit, (hentry l).clear⟩
  · exact ⟨(hoffer p o ho).1, State.liveIn_who.1 (hoffer p o ho).2⟩
  · exact State.liveIn_who.1 ((hentry l).owner ov ho)
  · obtain ⟨himage, hlimit, hclear⟩ := himages l
    exact ⟨himage, hlimit, hclear, fun ov ho => State.liveIn_who.2 (howner l ov ho)⟩
  · exact ⟨(hoffer p o ho).1, State.liveIn_who.2 (hoffer p o ho).2⟩

namespace State.TablesFor

section
variable {live : PortId → Profile → Prop} {who : PortId → Profile × PortState} {s t : State} {l : Station}

/-- What keeps the laws for the state's own LIVE ports keeps them. -/
theorem sound (h : t.TablesFor (LiveIn s.who) s.who) : t.TablesSound := by rw [State.TablesSound, h.ports]; exact h

/-- The laws speak of the tables, the offers, the enabled marks and what the ports are. -/
theorem of_eq (h : s.TablesFor live who) (maps : ∀ l, (t.map l).enabled = (s.map l).enabled) (images : t.images = s.images)
    (limits : t.limits = s.limits) (offers : t.offers = s.offers) (ports : t.who = s.who) : t.TablesFor live who where
  entry l := by
    have himage : t.image l = s.image l := by rw [State.image, images]; rfl
    have hlimit : t.limit l = s.limit l := by rw [State.limit, limits]; rfl
    rw [maps, himage, hlimit]; exact h.entry l
  offer p := by
    have hoffer : t.offer p = s.offer p := by rw [State.offer, offers]; rfl
    rw [hoffer]; exact h.offer p
  ports := ports.trans h.ports

theorem mapped (h : s.TablesFor live who) (hb : (s.image l).state ≠ .unbound) : (s.map l).enabled = true := by
  by_contra he
  exact hb ((h.entry l).image.1.2 (by simpa using he))

theorem bound (h : s.TablesFor live who) (he : (s.map l).enabled = true) : (s.image l).state ≠ .unbound := fun hb => by
  rw [(h.entry l).image.1.1 hb] at he; cases he

/-- Quiet changes keep the laws. -/
theorem quiet (h : s.TablesFor live who) (q : Quiet s t) : t.TablesFor live who where
  entry l := by
    obtain ⟨⟨hstate, hgen, hmisses, hunbound, hwaiting, hlive, hreading, hitem⟩, hlimit, hclear, howner⟩ := h.entry l
    have hclaims : ∀ ov ∈ (t.image l).override, ∃ ov' ∈ (s.image l).override, ov'.claim = ov.claim := fun ov ho => by
      have := q.claim l
      rw [show (t.image l).override = some ov from ho, Option.map_some] at this
      exact Option.map_eq_some_iff.1 this.symm
    have himage := q.image l
    have hsome : (t.image l).override.isSome = (s.image l).override.isSome := by
      rw [← Option.isSome_map (f := Override.claim), q.claim, Option.isSome_map]
    refine ⟨?_, (q.limit l).2 hlimit, fun hu => ?_, fun ov ho => ?_⟩
    · rw [q.map, himage]
      refine ⟨hstate, hgen, hmisses, fun hu => ?_, hwaiting, hlive, hreading, fun ov ho => ?_⟩
      · obtain ⟨h1, h2, h3, h4, h5⟩ := hunbound hu
        exact ⟨h1, h2, h3, h4, (q.override_none l).2 h5⟩
      · obtain ⟨ov', ho', hc⟩ := hclaims ov ho
        have : ov'.item = ov.item := congrArg (·.2.1) hc
        exact this ▸ hitem ov' ho'
    · rw [q.stationState, hsome] at hu
      have hn := hclear hu
      rw [(q.limit l).1 hn]; exact hn
    · obtain ⟨ov', ho', hc⟩ := hclaims ov ho
      have : ov'.owner = ov.owner := congrArg (·.1) hc
      exact this ▸ howner ov' ho'
  offer p := by rw [q.offer]; exact h.offer p
  ports := by
    rw [← h.ports]
    funext p
    exact Prod.ext (q.port p).1 (q.port p).2

theorem foldl {α : Type} {f : State → α → State} (hf : ∀ (s : State) x, s.TablesFor live who → (f s x).TablesFor live who)
    (xs : List α) (h : s.TablesFor live who) : (xs.foldl f s).TablesFor live who := by
  induction xs generalizing s with
  | nil => exact h
  | cons x xs ih => exact ih (hf s x h)

/-! ### Single writes -/

theorem setImage (h : s.TablesFor live who) {x : Image} (k : EntrySound live (s.map l).enabled x (s.limit l)) :
    (s.setImage l x).TablesFor live who where
  entry j := by
    by_cases hj : j = l
    · subst hj; simpa using k
    · simpa [hj] using h.entry j
  offer := h.offer
  ports := h.ports

theorem setLimit (h : s.TablesFor live who) {y : LimitEntry} (hy : y.Sound)
    (k : (s.image l).state = .unbound ∨ (s.image l).override.isSome = true → y.state = .none) :
    (s.setLimit l y).TablesFor live who where
  entry j := by
    by_cases hj : j = l
    · subst hj; simpa using ⟨(h.entry j).image, hy, k, (h.entry j).owner⟩
    · simpa [hj] using h.entry j
  offer := h.offer
  ports := h.ports

theorem setOffer (h : s.TablesFor live who) {p : PortId} {x : Option Offer} (k : ∀ o ∈ x, o.inRange = true ∧ live p .plant) :
    (s.setOffer p x).TablesFor live who where
  entry := h.entry
  offer q := by
    by_cases hq : q = p
    · subst hq; simpa using k
    · simpa [hq] using h.offer q
  ports := h.ports

/-- A write of a bound entry that keeps it bound, its generation and its override. -/
theorem setBound (h : s.TablesFor live who) (hb : (s.image l).state ≠ .unbound) {x : Image} (hx : x.state ≠ .unbound)
    (hgen : x.generation = (s.image l).generation) (hov : x.override = (s.image l).override) (hmisses : x.misses ≤ 15)
    (hwaiting : x.state = .waiting → x.reading = none) (hlive : x.state = .live ∨ x.state = .stale → x.reading.isSome = true)
    (hreading : ∀ r ∈ x.reading, r.Sound) : (s.setImage l x).TablesFor live who := by
  have he := h.mapped hb
  obtain ⟨⟨-, hg, -, -, -, -, -, hitem⟩, hlimit, hclear, howner⟩ := h.entry l
  refine h.setImage ⟨⟨⟨fun hu => absurd hu hx, fun hf => ?_⟩, hgen ▸ hg, hmisses,
    fun hu => absurd hu hx, hwaiting, hlive, hreading, hov ▸ hitem⟩, hlimit, fun hu => hclear ?_, hov ▸ howner⟩
  · rw [he] at hf; cases hf
  · exact hu.imp (fun hu => absurd hu hx) fun ho => hov ▸ ho

theorem clearOverride (h : s.TablesFor live who) (l : Station) :
    (s.setImage l { s.image l with override := none }).TablesFor live who := by
  obtain ⟨⟨hstate, hgen, hmisses, hunbound, hwaiting, hlive, hreading, -⟩, hlimit, hclear, -⟩ := h.entry l
  refine h.setImage ⟨⟨hstate, hgen, hmisses, fun hu => ?_, hwaiting, hlive, hreading, nofun⟩, hlimit, fun hu => hclear ?_, nofun⟩
  · obtain ⟨h1, h2, h3, h4, -⟩ := hunbound hu
    exact ⟨h1, h2, h3, h4, rfl⟩
  · exact hu.imp_right nofun

/-- An override of a bound entry on which the limiter claims nothing. -/
theorem setOverride (h : s.TablesFor live who) (hb : (s.image l).state ≠ .unbound) (hn : (s.limit l).state = .none)
    {p : PortId} (hp : live p .operator) {item : Item} (hitem : item ≠ .poll) (value : Option Nat) :
    (s.setOverride l p item value).TablesFor live who := by
  obtain ⟨⟨hstate, hgen, hmisses, hunbound, hwaiting, hlive, hreading, -⟩, hlimit, hclear, -⟩ := h.entry l
  refine h.setImage ⟨⟨hstate, hgen, hmisses, fun hu => absurd hu hb, hwaiting, hlive, hreading,
    fun ov ho => ?_⟩, hlimit, fun _ => hn, fun ov ho => ?_⟩
  · cases ho; exact hitem
  · cases ho; exact hp

/-! ### Results at the Station Table (R7 to R18) -/

theorem enterStale (h : s.TablesFor live who) (hs : (s.image l).state = .live) : (s.enterStale l).TablesFor live who := by
  obtain ⟨⟨-, -, hmisses, -, -, hlive, hreading, -⟩, -, -, -⟩ := h.entry l
  exact h.setBound (by simp [hs]) nofun rfl rfl hmisses nofun (fun _ => hlive (.inl hs)) hreading

theorem enterLost (h : s.TablesFor live who) (hb : (s.image l).state ≠ .unbound) : (s.enterLost l).TablesFor live who := by
  have q : Quiet s (s.dropWaiting (s.map l).trunk l) := .dropWaiting s _ l
  have hu := h.quiet q
  obtain ⟨⟨-, -, hmisses, -, -, -, hreading, -⟩, -, -, -⟩ := hu.entry l
  have hlost := hu.setBound (x := { (s.dropWaiting (s.map l).trunk l).image l with state := .lost }) (q.stationState l ▸ hb) nofun
    rfl rfl hmisses nofun (by simp) hreading
  exact hlost.quiet (.raiseAll _ _)

theorem goodReply (h : s.TablesFor live who) (hb : (s.image l).state ≠ .unbound) {r : Reading} (hr : r.Sound)
    (status : StatusSet) : (s.goodReply l r status).TablesFor live who := by
  have hgood := h.setBound (x := { s.image l with reading := some r, status := some status, misses := 0, state := .live }) hb
    nofun rfl rfl (Nat.zero_le _) nofun (fun _ => rfl) fun r' hr' => by cases hr'; exact hr
  unfold State.goodReply
  refine quiet ?_ (.pollIfAttention _ l status)
  split
  · exact hgood.quiet (.raiseAll _ _)
  · exact hgood

theorem sensorFaultReply (h : s.TablesFor live who) (hb : (s.image l).state ≠ .unbound) (status : StatusSet) :
    (s.sensorFaultReply l status).TablesFor live who := by
  obtain ⟨⟨-, -, -, -, hwaiting, hlive, hreading, -⟩, -, -, -⟩ := h.entry l
  have hfault := h.setBound (x := { s.image l with status := some status, misses := 0 }) hb hb rfl rfl (Nat.zero_le _) hwaiting
    hlive hreading
  exact hfault.quiet (.pollIfAttention _ l status)

theorem stationMiss (h : s.TablesFor live who) (hb : (s.image l).state ≠ .unbound) : (s.stationMiss l).TablesFor live who := by
  obtain ⟨⟨-, -, -, -, hwaiting, hlive, hreading, -⟩, -, -, -⟩ := h.entry l
  have hmiss := h.setBound (x := { s.image l with misses := min 15 ((s.image l).misses + 1) }) hb hb rfl rfl (Nat.min_le_left ..)
    hwaiting hlive hreading
  unfold State.stationMiss
  dsimp only
  split
  · exact hmiss.enterLost (by simpa using hb)
  · exact hmiss

end

end State.TablesFor

/-- The reading of a result, if there is one, is in range. -/
def StationResult.Sound : StationResult → Prop
  | .good r _ => r.Sound
  | .sensorFault _ => True
  | .miss => True

namespace State.TablesFor

section
variable {live : PortId → Profile → Prop} {who : PortId → Profile × PortState} {s t : State} {l : Station}

theorem tableResult (h : s.TablesFor live who) (stamp : Stamp) {r : StationResult} (hr : r.Sound) :
    (s.tableResult stamp r).TablesFor live who := by
  unfold State.tableResult
  split
  · rename_i hk
    cases r with
    | good r status => exact h.goodReply hk.2 hr status
    | sensorFault status => exact h.sensorFaultReply hk.2 status
    | miss => exact h.stationMiss hk.2
  · exact h

/-! ### Results at the Command Queue (R124 to R127) -/

theorem storePoll (h : s.TablesFor live who) (e : CommandEntry) (status : StatusSet) :
    (s.storePoll e status).TablesFor live who := by
  unfold State.storePoll
  split
  · split
    · exact h
    · rename_i hb
      obtain ⟨⟨-, -, hmisses, -, hwaiting, hlive, hreading, -⟩, -, -, -⟩ := h.entry e.index
      exact h.setBound hb hb rfl rfl hmisses hwaiting hlive hreading
  · exact h
  · exact h

theorem commandResult (h : s.TablesFor live who) (tr : TrunkId) (r : Option CommandReply) :
    (s.commandResult tr r).TablesFor live who := by
  unfold State.commandResult
  split
  · exact h
  · rename_i e _
    split
    · exact h.quiet (.endInFlight s tr e _)
    · unfold State.commandTaken
      split
      · exact h.quiet (.chargeMiss s tr e)
      · split
        · split
          · exact h.quiet (.setInFlight s tr _)
          · exact h.quiet (.endInFlight s tr e _)
        · exact (h.storePoll e _).quiet (.endInFlight _ tr e _)

/-! ### Roll-calls (R135) -/

theorem boundAnswers (h : s.TablesFor live who) (answer : Nat → Answer) (tr : TrunkId) (l : Station) :
    (State.boundAnswers answer tr s l).TablesFor live who := by
  unfold State.boundAnswers
  dsimp only
  split
  · rename_i hbound
    obtain ⟨he, -⟩ := (Bool.and_eq_true ..).mp hbound
    have hb := h.bound he
    obtain ⟨⟨-, -, hmisses, -, hwaiting, hlive, hreading, -⟩, -, -, -⟩ := h.entry l
    have hclash := h.setBound (x := { s.image l with clash := ((s.map l).addresses.map answer).contains .clash }) hb hb rfl
      rfl hmisses hwaiting hlive hreading
    split
    · exact hclash.quiet (.offerIfRoom _ _ _ _ _ _)
    · exact hclash
  · exact h

theorem rollcallAnswers (h : s.TablesFor live who) (tr : TrunkId) (answer : Nat → Answer) :
    (s.rollcallAnswers tr answer).TablesFor live who :=
  (foldl (fun _ l hu => hu.boundAnswers answer tr l) stations h).quiet (.foldl _ (Quiet.admissionAnswer answer tr) _ _)

/-! ### Reading ages (R12 to R14) -/

theorem rejudge (h : s.TablesFor live who) : s.rejudge.TablesFor live who := by
  have lives := foldl (f := State.rejudgeLive) (fun u l hu => by
    unfold State.rejudgeLive
    split
    · rename_i hk; exact hu.enterStale hk.1
    · exact hu) stations h
  refine foldl (f := State.rejudgeStale) (fun u l hu => ?_) stations lives
  unfold State.rejudgeStale
  split
  · rename_i hk; exact hu.enterLost (by simp [hk.1])
  · exact hu

end

end State.TablesFor

end Sys2Proof.Machine
end

/-! # Proofs: results in range, binding changes, the limiter and the ports that leave LIVE -/

section
namespace Sys2Proof.Machine

/-! ## Readings in range (R5, R24) -/

/-- A result of one half, or of a single station: its flow is at most that of one station. -/
def StationResult.HalfSound : StationResult → Prop
  | .good r _ => r.Sound ∧ r.q ≤ 4000
  | .sensorFault _ => True
  | .miss => True

theorem StationResult.HalfSound.sound {r : StationResult} (h : r.HalfSound) : r.Sound := by
  cases r with
  | good r status => exact h.1
  | sensorFault status => trivial
  | miss => trivial

theorem stationResult_halfSound (f : HeardFrame) (j : Judged DataReply) : (stationResult f j).HalfSound := by
  unfold stationResult
  split
  · split
    · trivial
    · rename_i d _
      have hq : (d.reading f.endAt).q ≤ 4000 := Nat.min_le_right ..
      refine ⟨⟨by omega, Nat.min_le_right .., Nat.min_le_right .., Nat.min_le_right .., fun dp hdp => ?_⟩, hq⟩
      obtain ⟨x, -, rfl⟩ := Option.map_eq_some_iff.1 (show (absentAt65535 d.dp).map _ = some dp from hdp)
      exact Nat.min_le_right ..
  all_goals trivial

theorem halfResult_halfSound (address : Nat) (f : Option HeardFrame) : (halfResult address f).1.HalfSound := by
  cases f with
  | none => trivial
  | some f => exact stationResult_halfSound f _

/-- A mean by flow lies no higher than the values it is made of. -/
theorem mixed_le {n xa xb : Nat} (ha : xa ≤ n) (hb : xb ≤ n) (qa qb : Nat) : mixed qa qb xa xb ≤ n := by
  unfold mixed
  split
  · rename_i hq
    have h1 : qa * xa ≤ qa * n := Nat.mul_le_mul_left qa ha
    have h2 : qb * xb ≤ qb * n := Nat.mul_le_mul_left qb hb
    refine Nat.le_of_lt_succ ((Nat.div_lt_iff_lt_mul (by omega)).2 ?_)
    calc 2 * (qa * xa + qb * xb) + (qa + qb) ≤ 2 * (qa * n + qb * n) + (qa + qb) := by omega
      _ < (n + 1) * (2 * (qa + qb)) := by nlinarith
  · omega

theorem combineReadings_sound {a b : Reading} (ha : a.Sound) (hb : b.Sound) (hqa : a.q ≤ 4000) (hqb : b.q ≤ 4000) :
    (combineReadings a b).Sound := by
  obtain ⟨-, hats, hatr, hav, hadp⟩ := ha
  obtain ⟨-, hbts, hbtr, hbv, hbdp⟩ := hb
  refine ⟨show a.q + b.q ≤ 8000 by omega, mixed_le hats hbts _ _, mixed_le hatr hbtr _ _, max_le hav hbv, fun dp hdp => ?_⟩
  cases h : a.dp with
  | none => exact hbdp dp (by simpa [combineReadings, h] using hdp)
  | some x => exact hadp dp (by simpa [combineReadings, h] using hdp)

theorem combineResults_sound {a b : StationResult} (ha : a.HalfSound) (hb : b.HalfSound) : (combineResults a b).Sound := by
  unfold combineResults
  split
  · exact combineReadings_sound ha.1 hb.1 ha.2 hb.2
  all_goals trivial

/-! ## The limiter (R67 to R76) -/

theorem LimitEntry.Sound.of_recovery_zero {y : LimitEntry} (h : y.recovery = 0) : y.Sound := ⟨by omega, fun k => absurd h k⟩

/-- The limiter entry that a decision leaves where the queue does not take its CAP is sound. -/
def LimitDecision.Sound (y : LimitEntry) : LimitDecision → Prop
  | .keep e => e.Sound
  | .queue _ notTaken => LimitEntry.Sound { y with recovery := notTaken }

theorem LimitDecision.sound_queue_zero (y : LimitEntry) (cap : Option Nat) : (LimitDecision.queue cap 0).Sound y :=
  LimitEntry.Sound.of_recovery_zero rfl

theorem decideNone_sound (x : Params) (m : MapPart) (r : Reading) (status : Option StatusSet) (y : LimitEntry) :
    (decideNone x m r status).Sound y := by
  unfold decideNone
  split <;> [skip; split] <;> exact LimitEntry.Sound.of_recovery_zero rfl

theorem decidePending_sound (x : Params) (m : MapPart) (r : Reading) {y : LimitEntry} (hy : y.Sound) (cap : Option Nat) :
    (decidePending x m r y cap).Sound y := by
  unfold decidePending
  split
  · split
    · exact LimitDecision.sound_queue_zero y _
    · split
      · exact LimitDecision.sound_queue_zero y _
      · exact hy
  · split
    · exact LimitDecision.sound_queue_zero y _
    · exact hy

/-- An ACTIVE entry may count up to three recoveries. -/
theorem LimitEntry.sound_active {y : LimitEntry} {c n : Nat} (hc : y.state = .active c) (hn : n ≤ 3) :
    LimitEntry.Sound { y with recovery := n } := ⟨hn, fun _ => ⟨c, by simp [hc, LimitState.cap], hc⟩⟩

theorem decideActive_sound (x : Params) (m : MapPart) (r : Reading) {y : LimitEntry} {c : Nat} (hc : y.state = .active c) :
    (decideActive x m r y c).Sound y := by
  unfold decideActive
  split
  · exact LimitDecision.sound_queue_zero y _
  · split
    · exact LimitDecision.sound_queue_zero y _
    · split
      · exact LimitEntry.sound_active hc (Nat.zero_le _)
      · split
        · exact LimitEntry.sound_active hc (Nat.min_le_left ..)
        · rename_i hfew
          split
          · rename_i hr
            exact LimitEntry.sound_active hc (by rw [not_and] at hfew; have := hfew hr; omega)
          · exact LimitEntry.sound_active hc (Nat.zero_le _)

theorem decideEntry_sound (x : Params) (m : MapPart) (r : Reading) (status : Option StatusSet) {y : LimitEntry} (hy : y.Sound) :
    (decideEntry x m r status y).Sound y := by
  unfold decideEntry
  split
  · exact decideNone_sound x m r status y
  · exact decidePending_sound x m r hy _
  · rename_i c hc; exact decideActive_sound x m r hc
  · unfold decideBlocked
    split
    · exact hy
    · exact decideNone_sound x m r status y

theorem State.inScope_spec {s : State} {l : Station} (h : s.inScope l = true) :
    (s.image l).state = .live ∧ (s.image l).override = none := by
  simp only [State.inScope, Bool.and_eq_true, decide_eq_true_eq, Option.isNone_iff_eq_none] at h
  exact h.1

namespace State.TablesFor

section
variable {live : PortId → Profile → Prop} {who : PortId → Profile × PortState} {s t : State} {l : Station}

theorem carryOut (h : s.TablesFor live who) (hs : (s.image l).state = .live) (ho : (s.image l).override = none)
    {d : LimitDecision} (hd : d.Sound (s.limit l)) : (s.carryOut l d).TablesFor live who := by
  have free : ∀ u : State, Quiet s u → ∀ y : LimitEntry,
      (u.image l).state = .unbound ∨ (u.image l).override.isSome = true → y.state = .none := fun u q y k => by
    rw [q.stationState, hs, (q.override_none l).2 ho] at k
    simp at k
  cases d with
  | keep e => exact h.setLimit hd (free s (.refl s) e)
  | queue cap n =>
    unfold State.carryOut
    dsimp only
    split
    · rename_i u hu
      have q := Quiet.offerCommand hu
      exact (h.quiet q).setLimit (.of_recovery_zero rfl) (free u q _)
    · exact h.setLimit hd (free s (.refl s) _)

theorem evaluate (h : s.TablesFor live who) : s.evaluate.TablesFor live who := by
  refine foldl (f := State.evaluateEntry) (fun u l hu => ?_) stations h
  unfold State.evaluateEntry
  split
  · rename_i hscope
    obtain ⟨hs, ho⟩ := State.inScope_spec hscope
    split
    · exact hu.carryOut hs ho (decideEntry_sound _ _ _ _ (hu.entry l).limit)
    · exact hu
  · exact hu

theorem clearLimits (h : s.TablesFor live who) :
    ({ s with limits := Vector.replicate 120 LimitEntry.cleared } : State).TablesFor live who where
  entry l := by
    have hl : ({ s with limits := Vector.replicate 120 LimitEntry.cleared } : State).limit l = .cleared := replicate_get ..
    rw [hl]
    exact ⟨(h.entry l).image, .of_recovery_zero rfl, fun _ => rfl, (h.entry l).owner⟩
  offer := h.offer
  ports := h.ports

theorem fallbackRelease (h : s.TablesFor live who) : s.fallbackRelease.TablesFor live who :=
  (h.quiet (.foldl State.releaseCap (fun u l => .releaseCap u l) stations s)).clearLimits

theorem dispatchOnce (h : s.TablesFor live who) : s.dispatchOnce.TablesFor live who := by
  unfold State.dispatchOnce
  split
  · exact h
  · refine quiet ?_ (.publish _ _)
    exact h.of_eq (fun _ => rfl) rfl rfl rfl rfl
  · refine quiet ?_ (.publish _ _)
    split
    · exact h.of_eq (fun _ => rfl) rfl rfl rfl rfl
    · have : ({ s with mode := .fallback, clearMark := false } : State).TablesFor live who :=
        h.of_eq (fun _ => rfl) rfl rfl rfl rfl
      exact (this.quiet (.raiseAll _ _)).fallbackRelease

end

end State.TablesFor

/-! ## Binding changes (R2, R21, R140) -/

theorem Quiet.who {s t : State} (q : Quiet s t) : t.who = s.who := funext fun p => Prod.ext (q.port p).1 (q.port p).2

theorem State.who_releaseByBinding (s : State) (t : TrunkId) (l : Station) : (s.releaseByBinding t l).who = s.who := by
  rcases s.releaseByBinding_cases t l with ⟨-, h⟩ | ⟨ov, -, ⟨-, h⟩ | ⟨-, h⟩⟩ <;> rw [h]
  · rfl
  · exact ((Quiet.setQueue _ t _).trans (.reportRelease _ l ov)).who

theorem State.who_bindingChange (s : State) (l : Station) (m : MapPart) : (s.bindingChange l m).who = s.who := by
  have h : ((s.detached l m).setLimit l .cleared).who = s.who :=
    (Quiet.dropWaiting _ _ l).who.trans (State.who_releaseByBinding (s.remapped l m) _ l)
  rw [State.bindingChange_eq]
  split
  · exact (Quiet.raiseAll _ _).who.trans h
  · exact h

theorem State.map_bindingChange (s : State) (l k : Station) (m : MapPart) :
    (s.bindingChange l m).map k = if k = l then m else s.map k := by
  rw [← State.map_setMap]
  exact congrArg (fun x => x.1.maps.get k) (s.settingsPart_bindingChange l m)

theorem State.offer_bindingChange (s : State) (l : Station) (m : MapPart) (p : PortId) :
    (s.bindingChange l m).offer p = s.offer p := by
  have h := (s.bindingChange_frame l m).1
  rw [h]; rfl

theorem Image.rebound_sound (x : Image) (enabled : Bool) : Image.Sound { x.rebound enabled with override := none } enabled := by
  refine ⟨?_, Nat.le_of_lt_succ (Nat.mod_lt _ (by omega)), Nat.zero_le _, fun _ => ⟨rfl, rfl, rfl, rfl, rfl⟩, fun _ => rfl,
    fun h => ?_, nofun, nofun⟩ <;> cases enabled <;> simp [Image.rebound] at *

namespace State.TablesFor

section
variable {live : PortId → Profile → Prop} {who : PortId → Profile × PortState} {s t : State} {l : Station}

theorem bindingChange (h : s.TablesFor live who) (l : Station) (m : MapPart) : (s.bindingChange l m).TablesFor live who where
  entry k := by
    rw [State.map_bindingChange, State.bindingChange_image, State.bindingChange_limit]
    by_cases hk : k = l
    · simp only [hk, if_true]
      exact ⟨Image.rebound_sound _ _, .of_recovery_zero rfl, fun _ => rfl, nofun⟩
    · simp only [hk, if_false]
      exact h.entry k
  offer p := by rw [State.offer_bindingChange]; exact h.offer p
  ports := (State.who_bindingChange s l m).trans h.ports

theorem writeMap (h : s.TablesFor live who) (l : Station) (m : MapPart) : (s.writeMap l m).TablesFor live who := by
  rw [State.writeMap_eq]
  refine quiet ?_ (.removeBoundCandidates _ m)
  split
  · exact h.bindingChange l m
  · rename_i hb
    have he : (s.map l).enabled = m.enabled := by
      by_contra he
      exact hb ((isBindingChange_iff _ _).2 (.inl he))
    refine h.of_eq (fun k => ?_) rfl rfl rfl rfl
    by_cases hk : k = l
    · subst hk; simp [he]
    · simp [hk]

theorem carryWriteMap (h : s.TablesFor live who) (index flags trunk address qc dpmin mark : Nat) :
    (s.carryWriteMap index flags trunk address qc dpmin mark).1.TablesFor live who := by
  unfold State.carryWriteMap
  split
  · dsimp only
    split <;> [exact h; split] <;> [exact h; exact h.writeMap _ _]
  · exact h

theorem carryAdmit (h : s.TablesFor live who) (trunk address index twin qc : Nat) :
    (s.carryAdmit trunk address index twin qc).1.TablesFor live who := by
  unfold State.carryAdmit
  split
  · rename_i l t _ _
    dsimp only
    split <;> [exact h; split] <;> [exact h; split] <;> [exact h; split] <;> [exact h; split] <;>
      [exact h; exact (h.bindingChange l _).quiet (.removeBoundCandidates _ _)]
  · exact h

/-! ## Other writes of the settings -/

theorem carryWriteSlot (h : s.TablesFor live who) (trunk entry rule index length : Nat) :
    (s.carryWriteSlot trunk entry rule index length).1.TablesFor live who := by
  unfold State.carryWriteSlot
  split
  · rename_i tr k _ _
    split
    · exact h
    · exact h
    · exact h.of_eq (fun _ => by cases tr <;> rfl) (by cases tr <;> rfl) (by cases tr <;> rfl) (by cases tr <;> rfl)
        (by cases tr <;> rfl)
  · exact h

theorem carryWriteParam (h : s.TablesFor live who) (identifier value : Nat) :
    (s.carryWriteParam identifier value).1.TablesFor live who := by
  unfold State.carryWriteParam
  split
  · rename_i y _
    have hy : (s.setParams y).TablesFor live who := h.of_eq (fun _ => rfl) rfl rfl rfl rfl
    dsimp only [answerOk, State.afterParam]
    split
    · exact hy.rejudge
    · exact hy.rejudge
    · exact hy.of_eq (fun _ => rfl) rfl rfl rfl rfl
    · exact hy.of_eq (fun _ => rfl) rfl rfl rfl rfl
    · exact hy
  · exact h

/-! ## Overrides (R77 to R82) -/

theorem placeOverride (h : s.TablesFor live who) (hb : (s.image l).state ≠ .unbound) {p : PortId} (hp : live p .operator)
    {item : Item} (hitem : item ≠ .poll) (value : Option Nat) : (s.placeOverride l p item value).TablesFor live who := by
  have q := Quiet.dropLimiterCap s (s.map l).trunk l
  have hcleared := (h.quiet q).setLimit (l := l) (y := .cleared) (.of_recovery_zero rfl) fun _ => rfl
  have hset := hcleared.setOverride (l := l) (q.stationState l ▸ hb) (by simp [LimitEntry.cleared]) hp hitem value
  exact hset.quiet (.offerIfRoom _ _ _ _ _ _)

theorem replaceOverride (h : s.TablesFor live who) (hb : (s.image l).state ≠ .unbound)
    (ho : (s.image l).override.isSome = true) {p : PortId} (hp : live p .operator) (old : Item) {item : Item}
    (hitem : item ≠ .poll) (value : Option Nat) : (s.replaceOverride l p old item value).TablesFor live who := by
  have hn := (h.entry l).clear (.inr ho)
  have q : Quiet s ((if old = item then s else s.offerIfRoom (s.map l).trunk l old none (.port p)).offerIfRoom
      (s.map l).trunk l item value (.port p)) := by
    refine Quiet.trans ?_ (.offerIfRoom _ _ _ _ _ _)
    split
    · exact .refl s
    · exact .offerIfRoom s _ _ _ _ _
  refine (h.quiet q).setOverride (q.stationState l ▸ hb) ?_ hp hitem value
  rw [(q.limit l).1 hn]; exact hn

theorem carryOverride (h : s.TablesFor live who) {p : PortId} (hp : live p .operator) (index item value : Nat) :
    (s.carryOverride p index item value).1.TablesFor live who := by
  unfold State.carryOverride
  split
  · exact h
  · split
    · exact h
    · rename_i l _ hb
      split
      · exact h
      · rename_i it hit
        have hitem : it ≠ .poll := fun hpoll => by
          unfold overrideItem at hit
          subst hpoll
          split at hit <;> cases hit
        split
        · exact h
        · split
          · exact h
          · dsimp only [answerOk]
            split
            · exact h.placeOverride hb hp hitem _
            · rename_i ov ho
              exact h.replaceOverride hb (by rw [ho]; rfl) hp _ hitem _

theorem carryRelease (h : s.TablesFor live who) (p : PortId) (index : Nat) : (s.carryRelease p index).1.TablesFor live who := by
  unfold State.carryRelease
  split
  · exact h
  · split
    · exact h
    · dsimp only
      split
      · exact h
      · split
        · exact h
        · exact (h.clearOverride _).quiet (.offerIfRoom _ _ _ _ _ _)

end

end State.TablesFor

end Sys2Proof.Machine
end

/-! # Proofs: every step keeps the table and what ports own -/

section
namespace Sys2Proof.Machine

/-! ## What a port owns -/

/-- The port owns the override of the station. -/
def State.Owns (s : State) (p : PortId) (l : Station) : Prop := (s.image l).override.map Override.owner = some p

theorem Quiet.owns {s t : State} (q : Quiet s t) (p : PortId) (l : Station) : t.Owns p l ↔ s.Owns p l := by
  have h : ∀ o : Option Override, o.map Override.owner = (o.map Override.claim).map (·.1) := fun o => by rw [Option.map_map]; rfl
  rw [State.Owns, State.Owns, h, h, q.claim]

/-- The release of an override (R82) is quiet but for the override, which is gone. -/
theorem State.releaseOverride_spec (s : State) (l : Station) (ov : Override) :
    ∃ u, Quiet s u ∧ Quiet (u.setImage l { u.image l with override := none }) (s.releaseOverride l ov) := by
  refine ⟨_, ?_, .offerIfRoom _ (s.map l).trunk l ov.item none .module⟩
  split
  · exact .dropEntry s _ _
  · exact .reportRelease s l ov

theorem State.owns_releaseOverride {s : State} {p : PortId} {l k : Station} {ov : Override}
    (h : (s.releaseOverride l ov).Owns p k) : k ≠ l ∧ s.Owns p k := by
  obtain ⟨u, q, q'⟩ := s.releaseOverride_spec l ov
  have hu := (q'.owns p k).1 h
  by_cases hk : k = l
  · subst hk; simp [State.Owns] at hu
  · exact ⟨hk, (q.owns p k).1 (by simpa [State.Owns, hk] using hu)⟩

theorem State.owns_releaseIfOwned {s : State} {p : PortId} {l k : Station} (h : (State.releaseIfOwned p s l).Owns p k) :
    k ≠ l ∧ s.Owns p k := by
  unfold State.releaseIfOwned at h
  split at h
  · rename_i ov ho
    split at h
    · exact State.owns_releaseOverride h
    · rename_i hne
      refine ⟨fun hk => hne ?_, h⟩
      subst hk
      simpa [State.Owns, ho] using h
  · rename_i ho
    refine ⟨fun hk => ?_, h⟩
    subst hk
    simp [State.Owns, ho] at h

theorem State.owns_releases {p : PortId} {k : Station} (ls : List Station) {s : State}
    (h : (ls.foldl (State.releaseIfOwned p) s).Owns p k) : k ∉ ls ∧ s.Owns p k := by
  induction ls generalizing s with
  | nil => exact ⟨List.not_mem_nil, h⟩
  | cons l ls ih =>
    obtain ⟨hmem, hown⟩ := ih h
    obtain ⟨hne, hown⟩ := State.owns_releaseIfOwned hown
    exact ⟨by simp [hne, hmem], hown⟩

/-- A port that has left LIVE owns no override (R82). -/
theorem State.not_owns_releaseOwned (s : State) (p : PortId) (k : Station) : ¬(s.releaseOwned p).Owns p k :=
  fun h => (State.owns_releases stations h).1 (mem_stations k)

theorem State.offers_releaseOwned (s : State) (p : PortId) : (s.releaseOwned p).offers = s.offers := by
  have one : ∀ u l, (State.releaseIfOwned p u l).offers = u.offers := fun u l => by
    unfold State.releaseIfOwned
    split
    · split
      · rename_i ov _ _
        obtain ⟨v, q, q'⟩ := u.releaseOverride_spec l ov
        exact q'.offers.trans q.offers
      · rfl
    · rfl
  suffices ∀ ls u, (List.foldl (State.releaseIfOwned p) u ls).offers = u.offers from this stations s
  intro ls
  induction ls with
  | nil => exact fun _ => rfl
  | cons l ls ih => exact fun u => (ih _).trans (one u l)

/-! ## Ports that change -/

namespace State.TablesFor

section
variable {live : PortId → Profile → Prop} {who : PortId → Profile × PortState} {s t : State} {l : Station}

theorem leaveLive (h : s.TablesFor live who) (p : PortId) : (s.leaveLive p).TablesFor live who := by
  have hoffer : (s.setOffer p none).TablesFor live who := h.setOffer nofun
  rw [State.leaveLive, State.releaseOwned]
  refine foldl (fun u l hu => ?_) stations hoffer
  unfold State.releaseIfOwned
  split
  · split
    · rename_i ov _ _
      obtain ⟨v, q, q'⟩ := u.releaseOverride_spec l ov
      exact ((hu.quiet q).clearOverride l).quiet q'
    · exact hu
  · exact hu

/-- The LIVE ports matter where they own something. -/
theorem relive (h : s.TablesFor live who) {live' : PortId → Profile → Prop} {p : PortId}
    (other : ∀ q f, q ≠ p → live q f → live' q f) (hoffer : s.offer p = none) (hown : ∀ k, ¬s.Owns p k) : s.TablesFor live' who where
  entry k := by
    obtain ⟨himage, hlimit, hclear, howner⟩ := h.entry k
    refine ⟨himage, hlimit, hclear, fun ov ho => other _ _ (fun hp => hown k ?_) (howner ov ho)⟩
    rw [State.Owns, show (s.image k).override = some ov from ho, ← hp]; rfl
  offer q o ho := by
    obtain ⟨hrange, hlive⟩ := h.offer q o ho
    refine ⟨hrange, other _ _ (fun hq => ?_) hlive⟩
    subst hq
    rw [hoffer] at ho; cases ho
  ports := h.ports

end

end State.TablesFor

namespace State.TablesSound

variable {s t : State}

/-- What keeps the laws for whatever ports are LIVE keeps them for the state's own. -/
theorem keep (h : s.TablesSound) (k : ∀ {live who}, s.TablesFor live who → t.TablesFor live who) : t.TablesSound := (k h).sound

theorem quiet (h : s.TablesSound) (q : Quiet s t) : t.TablesSound := h.keep fun k => k.quiet q

/-- Ports other than the one written stay what they were. -/
theorem liveIn_setPort {s : State} {p : PortId} {x : Port} {q : PortId} {f : Profile} (hq : q ≠ p) (h : LiveIn s.who q f) :
    LiveIn (s.setPort p x).who q f := by
  rw [LiveIn, State.who, State.port_setPort, if_neg hq]; exact h

/-- The port record of a state does not matter to the laws for given LIVE ports. -/
theorem setPort (h : s.TablesSound) (p : PortId) (x : Port) : (s.setPort p x).TablesFor (LiveIn s.who) (s.setPort p x).who :=
  ⟨h.entry, h.offer, rfl⟩

/-- A port that is not LIVE owns nothing, so it may become whatever it likes. -/
theorem setPort_idle (h : s.TablesSound) {p : PortId} (hp : (s.port p).state ≠ .live) (x : Port) :
    (s.setPort p x).TablesSound := by
  have idle : ∀ f, ¬LiveIn s.who p f := fun f hf => hp (State.liveIn_who.1 hf).2
  refine (h.setPort p x).relive (fun q f hq hf => liveIn_setPort hq hf) ?_ fun k hk => ?_
  · change s.offer p = none
    cases ho : s.offer p with
    | none => rfl
    | some o => exact absurd (h.offer p o ho).2 (idle _)
  · obtain ⟨ov, ho, hov⟩ := Option.map_eq_some_iff.1 (show (s.image k).override.map Override.owner = some p from hk)
    exact idle _ (hov ▸ (h.entry k).owner ov ho)

/-- A port that leaves LIVE gives up what it owns (R45, R82, R170). -/
theorem setPort_leaveLive (h : s.TablesSound) (p : PortId) (x : Port) : ((s.setPort p x).leaveLive p).TablesSound := by
  have left := (h.setPort p x).leaveLive p
  have offers : ((s.setPort p x).leaveLive p).offer p = none := by
    rw [State.leaveLive, State.offer, State.offers_releaseOwned]
    exact (State.offer_setOffer _ p p none).trans (if_pos rfl)
  exact (left.relive (fun q f hq hf => liveIn_setPort hq hf) offers fun k => State.not_owns_releaseOwned _ p k).sound

theorem fail (h : s.TablesSound) (p : PortId) : (s.fail p).TablesSound := by
  unfold State.fail
  dsimp only
  refine quiet ?_ (.raise _ p _)
  split
  · exact h.setPort_leaveLive p _
  · rename_i hp; exact h.setPort_idle hp _

theorem helloTaken (h : s.TablesSound) (p : PortId) : (s.helloTaken p).TablesSound := by
  unfold State.helloTaken
  split
  case h_4 => exact h.setPort_leaveLive p _
  all_goals
    rename_i hp
    exact h.setPort_idle (by simp [hp]) _

/-- A port enters LIVE owning nothing, or was LIVE already. -/
theorem enterLive (h : s.TablesSound) (p : PortId) : (s.enterLive p).TablesSound := by
  by_cases hp : (s.port p).state = .live
  · exact h.quiet (.setPort s p _ rfl hp.symm)
  · exact h.setPort_idle hp _

theorem refreshTaken (h : s.TablesSound) (p : PortId) : (s.refreshTaken p).TablesSound := by
  unfold State.refreshTaken
  split
  · exact h.enterLive p
  · exact h.enterLive p
  · split
    · split
      · exact h.fail p
      · exact h.enterLive p
    · exact h.enterLive p
  · exact h
  · exact h

/-- A request whose own rule keeps the laws keeps them. -/
theorem take (h : s.TablesSound) {p : PortId} {tag code : Nat} {gate : State → PortId → Option ResponseCode} {restarts : Bool}
    {f : State → Carried} (k : ∀ u : State, gate u p = none → u.TablesSound → (f u).1.TablesSound) :
    (s.take p tag code gate restarts f).TablesSound :=
  State.take_keeps (fun u x hprofile hstate hu => hu.quiet (.setPort u p x hprofile hstate)) k h

end State.TablesSound

/-! ## Resets (R178, R179) -/

theorem Image.atReset_sound (enabled : Bool) : (Image.atReset enabled).Sound enabled := by
  cases enabled <;> simp [Image.atReset, Image.Sound]

/-- Tables at their reset values meet the laws whatever the ports are. -/
theorem State.tablesFor_reset {s : State} (himage : ∀ l, s.image l = Image.atReset (s.map l).enabled)
    (hlimit : ∀ l, s.limit l = .cleared) (hoffer : ∀ p, s.offer p = none) (live : PortId → Profile → Prop) :
    s.TablesFor live s.who where
  entry l := by
    rw [himage, hlimit]
    exact ⟨Image.atReset_sound _, .of_recovery_zero rfl, fun _ => rfl, nofun⟩
  offer p := by rw [hoffer]; exact nofun
  ports := rfl

theorem State.tablesSound_startUp (s : State) (strap : PortId → Profile) : (s.startUp strap).TablesSound :=
  State.tablesFor_reset (s := s.startUp strap) (fun _ => tabulate_get ..) (fun _ => replicate_get ..) (fun _ => replicate_get ..) _

theorem State.tablesSound_networkReset (s : State) : s.networkReset.TablesSound := by
  have h := s.networkReset_eq
  refine State.tablesFor_reset (fun l => ?_) (fun l => ?_) (fun p => ?_) _ <;> rw [h]
  · exact tabulate_get ..
  · exact replicate_get ..
  · exact replicate_get ..

/-! ## Every step -/

section
variable {live : PortId → Profile → Prop} {who : PortId → Profile × PortState} {s : State}

theorem State.TablesFor.handMiss (h : s.TablesFor live who) (t : TrunkId) (k : ExchangeKind) :
    (s.handMiss t k).TablesFor live who := by
  cases k with
  | scan stamp | headScan stamp | pair stamp => exact h.tableResult stamp (r := .miss) trivial
  | command item => exact h.commandResult t none
  | rollcall => exact h

theorem State.TablesFor.handReply (h : s.TablesFor live who) (t : TrunkId) (x : Exchange) (f : HeardFrame) :
    (s.handReply t x f).1.TablesFor live who := by
  unfold State.handReply
  split
  · exact h.tableResult _ (stationResult_halfSound _ _).sound
  · exact h.tableResult _ (r := .miss) trivial
  · exact h.commandResult t _
  · exact h
  · exact h

/-- The end of an exchange, whatever is handed on between. -/
theorem State.TablesFor.exchangeEnd {u : State} {t : TrunkId} (h : u.TablesFor live who) (kind : ExchangeKind) (failed : Bool) :
    (u.afterExchange t kind failed).TablesFor live who := h.quiet (.afterExchange u t kind failed)

theorem State.TablesFor.clearedExchange (h : s.TablesFor live who) (n : Nat) (t : TrunkId) :
    ((s.await n).clearExchange t).TablesFor live who := h.quiet ((Quiet.await s n).trans (.clearExchange _ t))

end

/-- An offer is made of clamped fields (R43). -/
theorem offerOf_inRange {mode f cmin cmax rank ramp discharge charge : Nat} {o : Offer}
    (h : offerOf mode f cmin cmax rank ramp discharge charge = some o) : o.inRange = true := by
  obtain ⟨hlo, hhi⟩ := clampNat_bounds (show 1 ≤ 8 by omega) rank
  unfold offerOf at h
  dsimp only at h
  split at h <;> cases h <;> simp [Offer.inRange, hlo, hhi]

namespace State.TablesSound

variable {s : State}

theorem execReplyTimeout (h : s.TablesSound) (t : TrunkId) : Gives State.TablesSound (execReplyTimeout t s) := by
  unfold Machine.execReplyTimeout
  split
  · split
    · dsimp only
      split
      · exact h.keep fun k => ((k.clearedExchange _ t).handMiss t _).exchangeEnd _ _
      · exact h
    · exact h
  · exact h

theorem execReplyClosed (h : s.TablesSound) (t : TrunkId) : Gives State.TablesSound (execReplyClosed t s) := by
  unfold Machine.execReplyClosed
  split
  · split
    · dsimp only
      split
      · split
        · exact h.keep fun k => ((k.clearedExchange _ t).handReply t _ _).exchangeEnd _ _
        · exact h
      · exact h
    · exact h
  · exact h

theorem execPairExchangeEnd (h : s.TablesSound) (t : TrunkId) : Gives State.TablesSound (execPairExchangeEnd t s) := by
  unfold Machine.execPairExchangeEnd
  split
  · split
    · split
      · have half := halfResult_halfSound
        exact h.keep fun k =>
          ((k.clearedExchange _ t).tableResult _ (combineResults_sound (half _ _) (half _ _))).exchangeEnd _ _
      · exact h
    · exact h
  · exact h

theorem execRollcallEnd (h : s.TablesSound) (t : TrunkId) : Gives State.TablesSound (execRollcallEnd t s) := by
  unfold Machine.execRollcallEnd
  split
  · split
    · split
      · refine h.keep fun k => State.TablesFor.exchangeEnd ?_ _ _
        split
        · exact k.clearedExchange _ t
        · exact (k.clearedExchange _ t).rollcallAnswers t _
      · exact h
    · exact h
  · exact h

theorem execWithheldExchangeEnd (h : s.TablesSound) (t : TrunkId) : Gives State.TablesSound (execWithheldExchangeEnd t s) := by
  unfold Machine.execWithheldExchangeEnd
  split
  · split
    · exact h.keep fun k => ((k.clearedExchange _ t).handMiss t _).exchangeEnd _ _
    · exact h
  · exact h

theorem await (h : s.TablesSound) (n : Nat) : (s.await n).TablesSound := h.quiet (.await s n)

theorem execLongWindowExpiry (h : s.TablesSound) (p : PortId) : Gives State.TablesSound (execLongWindowExpiry p s) := by
  unfold Machine.execLongWindowExpiry
  split
  · split
    · exact (h.await _).fail p
    · exact h
  · split
    · exact (h.await _).fail p
    · exact h
  · exact h

theorem execRefreshWindowExpiry (h : s.TablesSound) (p : PortId) : Gives State.TablesSound (execRefreshWindowExpiry p s) := by
  unfold Machine.execRefreshWindowExpiry
  split
  · split
    · exact (h.await _).fail p
    · exact h
  · exact h

theorem execDispatchExpiry (h : s.TablesSound) : Gives State.TablesSound (execDispatchExpiry s) := by
  unfold Machine.execDispatchExpiry
  split
  · exact (h.await _).keep fun k => k.dispatchOnce.of_eq (fun _ => rfl) rfl rfl rfl rfl
  · exact h

theorem execLimiterExpiry (h : s.TablesSound) : Gives State.TablesSound (execLimiterExpiry s) := by
  unfold Machine.execLimiterExpiry
  split
  · dsimp only [Gives]
    have next : ∀ n, ({ s.await s.limiterDue with limiterDue := n } : State).TablesSound := fun n =>
      (h.await s.limiterDue).keep fun k => k.of_eq (fun _ => rfl) rfl rfl rfl rfl
    split
    · exact (next _).keep fun k => k.evaluate
    · exact next _
    · exact next _
  · exact h

theorem execStaleAgeExpiry (h : s.TablesSound) (l : Station) : Gives State.TablesSound (execStaleAgeExpiry l s) := by
  unfold Machine.execStaleAgeExpiry
  split
  · rename_i hs _
    split
    · exact (h.await _).keep fun k => k.enterStale hs
    · exact h
  · exact h

theorem execHoldLimitExpiry (h : s.TablesSound) (l : Station) : Gives State.TablesSound (execHoldLimitExpiry l s) := by
  unfold Machine.execHoldLimitExpiry
  split
  · rename_i hs _
    split
    · exact (h.await _).keep fun k => k.enterLost fun hu => by rw [show (s.image l).state = .unbound from hu] at hs; cases hs
    · exact h
  · exact h

theorem execResponseComplete (h : s.TablesSound) (p : PortId) : Gives State.TablesSound (execResponseComplete p s) := by
  unfold Machine.execResponseComplete
  split
  · exact h
  · split
    · refine quiet ?_ (.nextResponse _ p)
      split
      · exact State.tablesSound_networkReset _
      · exact h.await _
    · exact h

theorem execSaveComplete (h : s.TablesSound) : Gives State.TablesSound (execSaveComplete s) := by
  unfold Machine.execSaveComplete
  split
  · split
    · refine quiet ?_ (.raiseAll _ _)
      exact h.keep fun k => k.of_eq (fun _ => rfl) rfl rfl rfl rfl
    · exact h
  · exact h

theorem execPostOffer (h : s.TablesSound) (p : PortId) (tag mode f cmin cmax rank ramp discharge charge : Nat) :
    Gives State.TablesSound (execPostOffer p tag mode f cmin cmax rank ramp discharge charge s) := by
  refine h.take fun u gate hu => ?_
  split
  · rename_i o ho
    have hp : LiveIn u.who p .plant := State.liveIn_who.2 (State.gate_plant gate)
    refine State.TablesFor.sound (State.TablesFor.setOffer hu fun o' ho' => ?_)
    cases ho'
    exact ⟨offerOf_inRange ho, hp⟩
  · exact hu

end State.TablesSound

theorem exec_keeps_tablesSound (i : Instr) (s : State) (h : s.TablesSound) : Gives State.TablesSound (exec i s) := by
  by_cases quiet : isQuiet i = true
  · exact (exec_quiet quiet s).mono fun t q => h.quiet q
  cases i with
  | fullReset p0 p1 p2 p3 => exact State.tablesSound_startUp s _
  | responseComplete p => exact h.execResponseComplete p
  | hello p tag => exact h.take fun u _ hu => hu.helloTaken p
  | refresh p tag => exact h.take fun u _ hu => hu.refreshTaken p
  | postOffer p tag mode f cmin cmax rank ramp discharge charge =>
    exact h.execPostOffer p tag mode f cmin cmax rank ramp discharge charge
  | withdrawOffer p tag =>
    refine h.take fun u _ hu => ?_
    split
    · exact hu.keep fun k => k.setOffer nofun
    · exact hu
  | writeMap p tag index flags trunk address qc dpmin mark =>
    exact h.take fun u _ hu => hu.keep fun k => k.carryWriteMap _ _ _ _ _ _ _
  | writeSlot p tag trunk entry rule index length => exact h.take fun u _ hu => hu.keep fun k => k.carryWriteSlot _ _ _ _ _
  | writeParam p tag identifier value => exact h.take fun u _ hu => hu.keep fun k => k.carryWriteParam _ _
  | save p tag => exact h.take fun u _ hu => hu.keep fun k => k.of_eq (fun _ => rfl) rfl rfl rfl rfl
  | saveComplete => exact h.execSaveComplete
  | override p tag index item value =>
    exact h.take fun u gate hu =>
      State.TablesFor.sound (State.TablesFor.carryOverride hu (State.liveIn_who.2 (State.gate_operator gate)) index item value)
  | release p tag index => exact h.take fun u _ hu => hu.keep fun k => k.carryRelease p index
  | admitCandidate p tag trunk address index twin qc => exact h.take fun u _ hu => hu.keep fun k => k.carryAdmit _ _ _ _ _
  | longWindowExpiry p => exact h.execLongWindowExpiry p
  | refreshWindowExpiry p => exact h.execRefreshWindowExpiry p
  | dispatchExpiry => exact h.execDispatchExpiry
  | limiterExpiry => exact h.execLimiterExpiry
  | staleAgeExpiry l => exact h.execStaleAgeExpiry l
  | holdLimitExpiry l => exact h.execHoldLimitExpiry l
  | replyTimeout t => exact h.execReplyTimeout t
  | replyClosed t => exact h.execReplyClosed t
  | pairExchangeEnd t => exact h.execPairExchangeEnd t
  | rollcallEnd t => exact h.execRollcallEnd t
  | withheldExchangeEnd t => exact h.execWithheldExchangeEnd t
  | resetAsserted =>
    refine State.TablesSound.quiet ?_ (.eachPort _ _ fun _ => ⟨rfl, rfl⟩)
    exact h.keep fun k => k.of_eq (fun _ => rfl) rfl rfl rfl rfl
  | _ => exact absurd rfl quiet

end Sys2Proof.Machine
end

open Sys2Proof.Machine in
/-- Settles O58, command by command, from the laws for given LIVE ports. -/
theorem stepKeepsImagesAndOwnersSound : Obligations.StepKeepsImagesAndOwnersSound := fun s t himages howners h =>
  t.tablesSound_iff.1
    (step_keeps (fun q (hu : State.TablesSound _) => hu.quiet q) exec_keeps_tablesSound
      (s.tablesSound_iff.2 ⟨himages, howners⟩) h)

/-! # Proofs: the dispatch -/

section
namespace Sys2Proof.Machine

/-! ## The mode that an expiry reaches (R47) -/

theorem State.modeAtExpiry_eq_starting {s : State} :
    s.modeAtExpiry = .starting ↔ s.mode = .starting ∧ ¬s.HasLivePlant := by
  rw [← s.plantLive_iff]
  unfold State.modeAtExpiry
  cases s.mode with
  | starting => simp
  | run => by_cases h : s.plantLive = true <;> simp [h]
  | fallback => by_cases h : s.clearMark = true ∧ s.plantLive = true <;> simp [h]

theorem State.modeAtExpiry_eq_run {s : State} :
    s.modeAtExpiry = .run ↔ ((s.mode = .starting ∨ s.mode = .run) ∧ s.HasLivePlant)
      ∨ (s.mode = .fallback ∧ s.clearMark = true ∧ s.HasLivePlant) := by
  rw [← s.plantLive_iff]
  unfold State.modeAtExpiry
  cases s.mode <;> simp

theorem State.modeAtExpiry_of_stays_fallback {s : State} (hm : s.mode = .fallback)
    (h : s.clearMark = false ∨ ¬s.HasLivePlant) : s.modeAtExpiry = .fallback := by
  rw [← s.plantLive_iff] at h
  simp only [State.modeAtExpiry, hm]
  rcases h with h | h <;> simp [h]

/-! ## A dispatch in each of the three modes -/

/-- The state of which a dispatch computed in RUN publishes the record (R47, R34). -/
def State.enterRun (s : State) : State := { s with mode := .run, clearMark := false, setpoint := s.resetSetpoint }

/-- The state of which a dispatch computed in FALLBACK publishes the record (R47, R49). -/
def State.reachFallback (s : State) : State := if s.mode = .fallback then { s with clearMark := false } else s.enterFallback

theorem State.dispatchOnce_of_starting {s : State} (h : s.modeAtExpiry = .starting) : s.dispatchOnce = s := by
  simp only [State.dispatchOnce, h]

theorem State.dispatchOnce_of_run {s : State} (h : s.modeAtExpiry = .run) :
    s.dispatchOnce = s.enterRun.publish s.enterRun.runRecord := by
  simp only [State.dispatchOnce, h]; rfl

theorem State.dispatchOnce_of_fallback {s : State} (h : s.modeAtExpiry = .fallback) :
    s.dispatchOnce = s.reachFallback.publish s.reachFallback.fallbackRecord := by
  simp only [State.dispatchOnce, h]; rfl

theorem State.reachFallback_of_fallback {s : State} (h : s.mode = .fallback) :
    s.reachFallback = { s with clearMark := false } := if_pos h

/-- What changes on the way into FALLBACK, beside the mode and the mark, is work alone (R49, R76). -/
theorem WorkFrame.reachFallback (s : State) :
    WorkFrame { s with mode := .fallback, clearMark := false } s.reachFallback := by
  by_cases h : s.mode = .fallback
  · rw [State.reachFallback_of_fallback h, ← h]
    exact .refl _
  · rw [State.reachFallback, if_neg h]
    exact (WorkFrame.raiseAll _ _).trans (.fallbackRelease _)

/-- The expiry lets the time pass to its moment, dispatches once and starts the timer's next period (R46). -/
theorem exec_dispatchExpiry {s : State} (on : s.powered = true) :
    exec .dispatchExpiry s = .next { (s.await s.dispatchDue).dispatchOnce with
      dispatchDue := max s.clock s.dispatchDue + s.params.dispatchPeriod * 115200 } := by
  change execDispatchExpiry s = _
  rw [execDispatchExpiry, if_pos on]
  rfl

/-! ## The publishing of a record (R61) -/

theorem State.port_raiseDispatch (s : State) (q : PortId) :
    s.raiseDispatch.port q = { s.port q with
      flags := if (s.port q).state = .closed ∨ (s.port q).state = .shut then (s.port q).flags
        else (s.port q).flags ||| .dispatch } := by
  rw [State.raiseDispatch, State.port_eachPort]
  cases h : (s.port q).state <;> simp [Port.raise]

theorem State.port_publish (s : State) (r : Record) (q : PortId) :
    (s.publish r).port q = { s.port q with
      flags := if (s.port q).state = .closed ∨ (s.port q).state = .shut then (s.port q).flags
        else (s.port q).flags ||| .dispatch } := State.port_raiseDispatch _ q

@[simp] theorem State.port_dispatchDue (s : State) (n : Nat) (q : PortId) :
    ({ s with dispatchDue := n } : State).port q = s.port q := rfl

/-! ## The figures of a record (R26 to R29, R32) -/

/-- The figures of the record are those of the state. -/
structure Record.FiguresOf (r : Record) (s : State) : Prop where
  demand : r.demand = s.demand
  flow : r.flow = s.networkFlow
  adjusted : r.adjusted = adjustedDemand s.demand s.params.loss
  live : r.live = s.countIn .live
  stale : r.stale = s.countIn .stale
  excluded : r.excluded = s.excluded
  incomplete : r.incomplete = decide (0 < s.excluded)
  dpBlind : r.dpBlind = s.reference.isEmpty

theorem State.runRecord_figures (s : State) : s.runRecord.FiguresOf s := ⟨rfl, rfl, rfl, rfl, rfl, rfl, rfl, rfl⟩

theorem State.fallbackRecord_figures (s : State) : s.fallbackRecord.FiguresOf s := ⟨rfl, rfl, rfl, rfl, rfl, rfl, rfl, rfl⟩

theorem WorkFrame.reading {s t : State} (h : WorkFrame s t) (l : Station) : (t.image l).reading = (s.image l).reading := by
  rw [h.2.2]

theorem WorkFrame.total {s t : State} (h : WorkFrame s t) (f : Reading → Nat) : t.total f = s.total f := by
  have counted : ∀ l, (t.image l).counted = (s.image l).counted := fun l => by rw [h.2.2]; rfl
  simp only [State.total, counted]

theorem WorkFrame.countIn {s t : State} (h : WorkFrame s t) (st : StationState) : t.countIn st = s.countIn st := by
  simp only [State.countIn, h.stationState]

theorem WorkFrame.excluded {s t : State} (h : WorkFrame s t) : t.excluded = s.excluded := by
  simp only [State.excluded, h.countIn]

theorem WorkFrame.reference {s t : State} (h : WorkFrame s t) : t.reference = s.reference := by
  have margin : t.margin = s.margin := funext fun l => by simp only [State.margin, h.stationState, h.map, h.reading]
  rw [State.reference, margin, State.reference]

/-- Work alone moves no figure. -/
theorem Record.FiguresOf.of_workFrame {r : Record} {s t : State} (h : r.FiguresOf t) (k : WorkFrame s t) : r.FiguresOf s where
  demand := h.demand.trans (k.total _)
  flow := h.flow.trans (k.total _)
  adjusted := by rw [h.adjusted, k.params, show t.demand = s.demand from k.total _]
  live := h.live.trans (k.countIn _)
  stale := h.stale.trans (k.countIn _)
  excluded := h.excluded.trans k.excluded
  incomplete := by rw [h.incomplete, k.excluded]
  dpBlind := by rw [h.dpBlind, k.reference]

/-- No figure depends on the clock, the mode, the mark or S. -/
theorem Record.FiguresOf.of_setpoint {r : Record} (s : State) {clock setpoint : Nat} {mode : NetMode} {mark : Bool}
    (h : r.FiguresOf { s with clock := clock, mode := mode, clearMark := mark, setpoint := setpoint }) : r.FiguresOf s :=
  ⟨h.demand, h.flow, h.adjusted, h.live, h.stale, h.excluded, h.incomplete, h.dpBlind⟩

/-! ## What a dispatch leaves -/

/-- In STARTING S is as it was, and no record is claimed; else the current record has the figures of the state before, and S is
as the mode reached has it. -/
def Dispatched (s t : State) : Prop :=
  (t.mode = .starting ∧ t.setpoint = s.setpoint)
  ∨ (t.mode = .run ∧ t.setpoint = s.resetSetpoint ∨ t.mode = .fallback ∧ t.setpoint = s.setpoint)
    ∧ ∃ r, t.current = some r ∧ r.setpoint = t.setpoint ∧ r.FiguresOf s

theorem State.dispatchOnce_dispatched (s : State) : Dispatched s s.dispatchOnce := by
  cases hm : s.modeAtExpiry with
  | starting =>
    rw [State.dispatchOnce_of_starting hm]
    exact .inl ⟨(State.modeAtExpiry_eq_starting.1 hm).1, rfl⟩
  | run =>
    rw [State.dispatchOnce_of_run hm]
    exact .inr ⟨.inl ⟨rfl, rfl⟩, _, rfl, rfl, s.enterRun.runRecord_figures.of_setpoint s⟩
  | fallback =>
    have work := WorkFrame.reachFallback s
    have held : s.reachFallback.setpoint = s.setpoint := by rw [work.1]
    rw [State.dispatchOnce_of_fallback hm]
    exact .inr ⟨.inr ⟨work.mode, held⟩, _, rfl, rfl,
      (s.reachFallback.fallbackRecord_figures.of_workFrame work).of_setpoint s⟩

theorem exec_dispatchExpiry_dispatched {s t : State} (on : s.powered = true) (h : exec .dispatchExpiry s = .next t) :
    Dispatched s t := by
  rw [exec_dispatchExpiry on] at h
  cases h
  rcases (s.await s.dispatchDue).dispatchOnce_dispatched with held | ⟨reached, r, current, setpoint, figures⟩
  · exact .inl held
  · exact .inr ⟨reached, r, current, setpoint, figures.of_setpoint s⟩

/-! ## The figures in the statement's arithmetic -/

theorem Reading.load_eq (r : Reading) : r.load = (r.q * (r.tr - r.ts) * 419 + 50000) / 100000 := by
  rw [Reading.load, r.dT_eq]

/-- Of a LIVE or STALE entry the quantity of the reading counts, of any other nothing (R25, R27). -/
theorem State.total_eq (s : State) (f : Reading → Nat) :
    s.total f = (stations.map fun l =>
      if ((s.image l).state = .live || (s.image l).state = .stale) = true then ((s.image l).reading.map f).getD 0
      else 0).sum := by
  refine congrArg List.sum (List.map_congr_left fun l _ => ?_)
  generalize s.image l = x
  unfold Image.counted
  cases x.state <;> cases x.reading <;> rfl

theorem State.countIn_eq (s : State) (st : StationState) :
    s.countIn st = (stations.filter fun l => (s.image l).state = st).length := by
  rw [State.countIn, List.countP_eq_length_filter]
  rfl

/-! ## The reset of S (R32 to R34) -/

theorem State.mem_reference {s : State} {e : Int × Nat} : e ∈ s.reference ↔ ∃ l, s.refers l e.1 e.2 := by
  simp only [State.reference, List.mem_filterMap, s.refers_iff, stations, List.mem_finRange, true_and]

theorem State.reference_isEmpty {s : State} : s.reference.isEmpty = true ↔ ∀ l m v, ¬s.refers l m v := by
  rw [List.isEmpty_iff, List.eq_nil_iff_forall_not_mem]
  simp only [Prod.forall, State.mem_reference, not_exists]
  exact ⟨fun h l m v => h m v l, fun h m v l => h l m v⟩

theorem State.reference_any_short {s : State} :
    (s.reference.any fun e => e.1 < 0) = true ↔ ∃ l m v, s.refers l m v ∧ m < 0 := by
  simp only [List.any_eq_true, decide_eq_true_eq, Prod.exists, State.mem_reference]
  exact ⟨fun ⟨m, v, ⟨l, h⟩, hm⟩ => ⟨l, m, v, h, hm⟩, fun ⟨l, m, v, h, hm⟩ => ⟨m, v, ⟨l, h⟩, hm⟩⟩

theorem State.reference_all_spare {s : State} {deadband : Nat} :
    (s.reference.all fun e => (deadband : Int) < e.1 ∧ e.2 < 900) = true
      ↔ ∀ l m v, s.refers l m v → (deadband : Int) < m ∧ v < 900 := by
  simp only [List.all_eq_true, decide_eq_true_eq, Prod.forall, State.mem_reference, forall_exists_index]
  exact ⟨fun h l m v => h m v l, fun h m v l => h l m v⟩

theorem State.resetSetpoint_of_blind {s : State} (blind : s.reference.isEmpty = true) : s.resetSetpoint = s.setpoint := by
  simp only [State.resetSetpoint, if_pos blind]

/-- Of a reference set with an entry, the first row of R33 whose condition holds moves S, and R34 clamps it. -/
theorem State.resetSetpoint_of_not_blind {s : State} (sighted : ¬s.reference.isEmpty = true) :
    s.resetSetpoint = clampNat
      (if (s.reference.any fun e => e.1 < 0) = true then s.setpoint + s.params.stepUp
        else if (s.reference.all fun e => (s.params.deadband : Int) < e.1 ∧ e.2 < 900) = true then
          s.setpoint - s.params.stepDown
        else s.setpoint) s.params.sMin s.params.sMax := by
  simp only [State.resetSetpoint, if_neg sighted]

end Sys2Proof.Machine

open Sys2Proof.Machine in
/-- Settles O18, by the mode that the expiry reaches. -/
theorem dispatchFollowsTheMode : Obligations.DispatchFollowsTheMode := by
  intro s on
  dsimp only
  rw [exec_dispatchExpiry on]
  refine ⟨fun hm hp => ?_, fun h => ?_, fun hm h => ?_⟩
  · have reached : (s.await s.dispatchDue).modeAtExpiry = .starting := State.modeAtExpiry_eq_starting.2 ⟨hm, hp⟩
    rw [State.dispatchOnce_of_starting reached]
    rfl
  · have reached : (s.await s.dispatchDue).modeAtExpiry = .run := State.modeAtExpiry_eq_run.2 h
    rw [State.dispatchOnce_of_run reached]
    exact ⟨_, _, rfl, ⟨fun q => (State.port_dispatchDue _ _ q).trans (State.port_publish _ _ q), rfl, rfl⟩, rfl, rfl, rfl⟩
  · have reached : (s.await s.dispatchDue).modeAtExpiry = .fallback := State.modeAtExpiry_of_stays_fallback hm h
    rw [State.dispatchOnce_of_fallback reached, State.reachFallback_of_fallback (s := s.await s.dispatchDue) hm]
    exact ⟨_, _, rfl, ⟨fun q => (State.port_dispatchDue _ _ q).trans (State.port_publish _ _ q), rfl, rfl⟩, rfl, rfl, rfl⟩

open Sys2Proof.Machine in
/-- Settles O20: the record has the figures of the state, and these are the statement's sums and counts. -/
theorem recordFigures : Obligations.RecordFigures := by
  intro s t on h started
  rcases exec_dispatchExpiry_dispatched on h with ⟨starting, -⟩ | ⟨-, r, current, -, figures⟩
  · exact absurd starting started
  refine ⟨r, current, ?_, ?_, ?_, ?_, ?_, ?_, ?_⟩
  · rw [figures.demand, State.demand, State.total_eq, funext Reading.load_eq]
  · rw [figures.flow, State.networkFlow, State.total_eq]
  · rw [figures.adjusted, figures.demand, adjustedDemand]
  · rw [figures.live, State.countIn_eq]
  · rw [figures.stale, State.countIn_eq]
  · rw [figures.excluded, State.excluded, State.countIn_eq, State.countIn_eq]
  · rw [figures.incomplete, figures.excluded, decide_eq_true_eq]

open Sys2Proof.Machine in
/-- Settles O21: in RUN the reset row by row, in the other modes S held. -/
theorem dpResetMovesOneStep : Obligations.DpResetMovesOneStep := by
  intro s t on h
  dsimp only
  have dispatched := exec_dispatchExpiry_dispatched on h
  have reset : t.mode = .run → t.setpoint = s.resetSetpoint := by
    rcases dispatched with ⟨hm, -⟩ | ⟨⟨-, hs⟩ | ⟨hm, -⟩, -⟩
    · simp [hm]
    · exact fun _ => hs
    · simp [hm]
  have held : t.mode ≠ .run → t.setpoint = s.setpoint := by
    rcases dispatched with ⟨-, hs⟩ | ⟨⟨hm, -⟩ | ⟨-, hs⟩, -⟩
    · exact fun _ => hs
    · exact fun hn => absurd hm hn
    · exact fun _ => hs
  rw [← State.reference_isEmpty, ← State.reference_any_short, ← State.reference_all_spare]
  refine ⟨fun hm blind => ?_, fun hm short => ?_, fun hm sighted spare => ?_, fun hm sighted short spare => ?_, held,
    fun started => ?_⟩
  · rw [reset hm, State.resetSetpoint_of_blind blind]
  · have sighted : ¬s.reference.isEmpty = true := fun blind => by
      rw [List.isEmpty_iff.1 blind] at short; cases short
    rw [reset hm, State.resetSetpoint_of_not_blind sighted, if_pos short]
  · have short : ¬(s.reference.any fun e => e.1 < 0) = true := by
      rw [State.reference_any_short]
      rintro ⟨l, m, v, hr, hneg⟩
      have := (State.reference_all_spare.1 spare l m v hr).1
      omega
    rw [reset hm, State.resetSetpoint_of_not_blind sighted, if_neg short, if_pos spare]
  · rw [reset hm, State.resetSetpoint_of_not_blind sighted, if_neg short, if_neg spare]
  · rcases dispatched with ⟨starting, -⟩ | ⟨-, r, current, setpoint, figures⟩
    · exact absurd starting started
    · exact ⟨r, current, setpoint, by rw [figures.dpBlind]⟩

end

/-! # Proofs: the division of the flow -/

section
namespace Sys2Proof.Machine

/-! ## Ranks in a strict total order -/

/-- Where each member of a finite set is ranked by the number of members before it, the ranks below `k` are taken by `k` members. -/
theorem card_rank_lt {α : Type} [DecidableEq α] {S : Finset α} {before : α → α → Bool} (irrefl : ∀ a, before a a = false)
    (trans : ∀ a b c, before a b = true → before b c = true → before a c = true)
    (total : ∀ a ∈ S, ∀ b ∈ S, a ≠ b → before a b = true ∨ before b a = true) {k : Nat} (hk : k ≤ S.card) :
    (S.filter fun e => (S.filter fun f => before f e).card < k).card = k := by
  obtain ⟨rank, hrank⟩ : ∃ rank : α → Nat, rank = fun e => (S.filter fun f => before f e).card := ⟨_, rfl⟩
  have mono : ∀ a ∈ S, ∀ b, before a b = true → rank a < rank b := fun a ha b hab => by
    rw [hrank]
    refine Finset.card_lt_card (Finset.ssubset_iff.2 ⟨a, by simp [irrefl], fun c hc => ?_⟩)
    rcases Finset.mem_insert.1 hc with rfl | hc
    · simp [ha, hab]
    · simp only [Finset.mem_filter] at hc ⊢
      exact ⟨hc.1, trans c a b hc.2 hab⟩
  have inj : Set.InjOn rank S := fun a ha b hb hab => by
    by_contra hne
    rcases total a ha b hb hne with h | h
    · exact absurd hab (mono a ha b h).ne
    · exact absurd hab (mono b hb a h).ne'
  have below : ∀ a ∈ S, rank a < S.card := fun a ha => by
    rw [hrank]
    exact Finset.card_lt_card (Finset.ssubset_iff.2 ⟨a, by simp [irrefl], fun c hc => by
      rcases Finset.mem_insert.1 hc with rfl | hc
      · exact ha
      · exact (Finset.mem_filter.1 hc).1⟩)
  have image : S.image rank = Finset.range S.card :=
    Finset.eq_of_subset_of_card_le (fun n hn => by
      obtain ⟨a, ha, rfl⟩ := Finset.mem_image.1 hn
      exact Finset.mem_range.2 (below a ha)) (by rw [Finset.card_range, Finset.card_image_of_injOn inj])
  calc (S.filter fun e => (S.filter fun f => before f e).card < k).card
      = ((S.filter fun e => rank e < k).image rank).card := by
        rw [Finset.card_image_of_injOn (inj.mono fun a ha => (Finset.mem_filter.1 ha).1), hrank]
    _ = ((S.image rank).filter fun n => n < k).card := by rw [Finset.filter_image]
    _ = (Finset.range k).card := by
        rw [image]
        congr 1
        ext n
        simp only [Finset.mem_filter, Finset.mem_range]
        omega
    _ = k := Finset.card_range k

/-! ## Who stands before whom -/

theorem ShareEntry.before_iff (e f : ShareEntry) (q sum : Nat) :
    e.before f q sum = true ↔
      f.remainder q sum < e.remainder q sum ∨ (f.remainder q sum = e.remainder q sum ∧ e.port.val < f.port.val) := by
  simp [ShareEntry.before]

theorem ShareEntry.before_irrefl (e : ShareEntry) (q sum : Nat) : e.before e q sum = false := by
  simp [ShareEntry.before]

theorem ShareEntry.before_trans {e f g : ShareEntry} {q sum : Nat} (h : e.before f q sum = true) (k : f.before g q sum = true) :
    e.before g q sum = true := by
  rw [ShareEntry.before_iff] at *
  omega

theorem ShareEntry.before_total {e f : ShareEntry} (q sum : Nat) (h : e.port ≠ f.port) :
    e.before f q sum = true ∨ f.before e q sum = true := by
  have : e.port.val ≠ f.port.val := Fin.val_ne_of_ne h
  rw [ShareEntry.before_iff, ShareEntry.before_iff]
  omega

/-! ## The units left over -/

/-- The place of an entry in the handing out of the units left over. -/
def handRank (es : List ShareEntry) (q : Nat) (e : ShareEntry) : Nat :=
  es.countP fun f => 0 < f.positive && f.before e q (positiveSum es)

/-- The floor of the entry's proportion of the flow. -/
abbrev flowFloor (es : List ShareEntry) (q : Nat) (e : ShareEntry) : Nat := q * e.positive / positiveSum es

theorem sum_indicator {α : Type} (p : α → Bool) (es : List α) : (es.map fun e => if p e = true then 1 else 0).sum = es.countP p := by
  induction es with
  | nil => rfl
  | cons e es ih => rw [List.map_cons, List.sum_cons, ih, List.countP_cons, Nat.add_comm]

theorem sum_floors_le (es : List ShareEntry) (q : Nat) : (es.map (flowFloor es q)).sum ≤ q := by
  rcases Nat.eq_zero_or_pos (positiveSum es) with h | h
  · simp [show flowFloor es q = fun _ => 0 from funext fun e => by simp [flowFloor, h]]
  · refine Nat.le_of_mul_le_mul_left ?_ h
    calc positiveSum es * (es.map (flowFloor es q)).sum
        = (es.map fun e => positiveSum es * flowFloor es q e).sum := (List.sum_map_mul_left ..).symm
      _ ≤ (es.map fun e => q * e.positive).sum := List.sum_le_sum fun e _ => Nat.mul_div_le _ _
      _ = positiveSum es * q := by rw [List.sum_map_mul_left, Nat.mul_comm, positiveSum]

/-- The units left over are no more than the positive shares. -/
theorem leftOver_le_positives {es : List ShareEntry} (q : Nat) (h : 0 < positiveSum es) :
    leftOver es q (positiveSum es) ≤ es.countP fun e => 0 < e.positive := by
  have enough : q ≤ (es.map (flowFloor es q)).sum + es.countP fun e => 0 < e.positive := by
    refine Nat.le_of_mul_le_mul_left ?_ h
    calc positiveSum es * q
        = (es.map fun e => q * e.positive).sum := by rw [List.sum_map_mul_left, Nat.mul_comm, positiveSum]
      _ ≤ (es.map fun e => positiveSum es * (flowFloor es q e + if decide (0 < e.positive) = true then 1 else 0)).sum :=
          List.sum_le_sum fun e _ => by
            split
            · exact (Nat.lt_mul_div_succ (q * e.positive) h).le
            · rename_i hp
              simp [show e.positive = 0 by simpa using hp]
      _ = positiveSum es * ((es.map (flowFloor es q)).sum + es.countP fun e => 0 < e.positive) := by
          rw [List.sum_map_mul_left, List.sum_map_add, sum_indicator]
  exact Nat.sub_le_iff_le_add'.2 enough

/-- The entry gets one of the units left over. -/
def getsUnit (es : List ShareEntry) (q : Nat) (e : ShareEntry) : Bool :=
  0 < e.positive && decide (handRank es q e < leftOver es q (positiveSum es))

theorem flowShare_of_not_positive {es : List ShareEntry} {q : Nat} {e : ShareEntry} (h : e.positive = 0) :
    flowShare es q e = 0 := by simp only [flowShare, h, true_or, if_true]

theorem flowShare_eq {es : List ShareEntry} (q : Nat) (e : ShareEntry) (h : 0 < positiveSum es) :
    flowShare es q e = flowFloor es q e + if getsUnit es q e = true then 1 else 0 := by
  by_cases hp : e.positive = 0
  · simp [flowShare_of_not_positive hp, flowFloor, getsUnit, hp]
  · have : ¬(e.positive = 0 ∨ positiveSum es = 0) := by omega
    simp only [flowShare, if_neg this, getsUnit, Nat.pos_of_ne_zero hp, decide_true, Bool.true_and, decide_eq_true_eq]
    rfl

/-! ## Entries in order of port number -/

section
variable {es : List ShareEntry}

theorem port_ne_of_sorted (h : es.Pairwise fun a b => a.port < b.port) {e f : ShareEntry} (he : e ∈ es) (hf : f ∈ es)
    (hne : e ≠ f) : e.port ≠ f.port := fun k =>
  hne (List.inj_on_of_nodup_map (List.pairwise_map.2 (h.imp fun hlt => hlt.ne)) he hf k)

/-- As many entries get a unit as are left over. -/
theorem countP_getsUnit (h : es.Pairwise fun a b => a.port < b.port) (q : Nat) (hsum : 0 < positiveSum es) :
    es.countP (getsUnit es q) = leftOver es q (positiveSum es) := by
  have nodup : es.Nodup := h.imp fun hlt heq => hlt.ne (congrArg _ heq)
  have count : ∀ p : ShareEntry → Bool, es.countP p = (es.toFinset.filter fun e => p e).card := fun p => by
    rw [List.countP_eq_length_filter, ← List.toFinset_filter, List.toFinset_card_of_nodup (nodup.filter p)]
  have among := card_rank_lt (S := es.toFinset.filter fun e => 0 < e.positive)
    (before := fun f e => f.before e q (positiveSum es)) (fun e => e.before_irrefl q _)
    (fun _ _ _ => ShareEntry.before_trans)
    (fun a ha b hb hne => ShareEntry.before_total q _ (port_ne_of_sorted h (List.mem_toFinset.1 (Finset.mem_filter.1 ha).1)
      (List.mem_toFinset.1 (Finset.mem_filter.1 hb).1) hne))
    (k := leftOver es q (positiveSum es)) (by simpa [count] using leftOver_le_positives q hsum)
  rw [← among, count]
  congr 1
  rw [Finset.filter_filter]
  refine Finset.filter_congr fun e _ => ?_
  rw [getsUnit, handRank, count]
  simp [Finset.filter_filter]

theorem sum_flowShare (h : es.Pairwise fun a b => a.port < b.port) (q : Nat) (hsum : 0 < positiveSum es) :
    (es.map (flowShare es q)).sum = q := by
  have split : flowShare es q = fun e => flowFloor es q e + if getsUnit es q e = true then 1 else 0 :=
    funext fun e => flowShare_eq q e hsum
  rw [split, List.sum_map_add, sum_indicator, countP_getsUnit h q hsum]
  exact Nat.add_sub_cancel' (sum_floors_le es q)

end

theorem positiveSum_pos {es : List ShareEntry} {e : ShareEntry} (he : e ∈ es) (h : 0 < e.share) : 0 < positiveSum es :=
  lt_of_lt_of_le (show 0 < e.positive by unfold ShareEntry.positive; omega)
    (List.single_le_sum (fun _ _ => Nat.zero_le _) _ (List.mem_map_of_mem he))

/-- A unit left over that goes to an entry goes to all that stand before it. -/
theorem getsUnit_of_before {es : List ShareEntry} {q : Nat} {e f : ShareEntry} (hf : 0 < f.positive)
    (before : f.before e q (positiveSum es) = true) (he : getsUnit es q e = true) : getsUnit es q f = true := by
  simp only [getsUnit, Bool.and_eq_true, decide_eq_true_eq] at he ⊢
  refine ⟨hf, lt_of_le_of_lt (List.countP_mono_left fun g _ hg => ?_) he.2⟩
  simp only [Bool.and_eq_true] at hg ⊢
  exact ⟨hg.1, ShareEntry.before_trans hg.2 before⟩

end Sys2Proof.Machine

open Sys2Proof.Machine in
/-- Settles O24: the entries are ranked by their remainders, and those of the lowest ranks get the units left over. -/
theorem flowIsDividedByRemainders : Obligations.FlowIsDividedByRemainders := by
  intro es q sorted
  dsimp only
  have positive : ∀ e : ShareEntry, 0 < e.share → 0 < e.positive := fun e h => by unfold ShareEntry.positive; omega
  have unit : ∀ e ∈ es, 0 < e.share → (flowShare es q e = flowFloor es q e + 1 ↔ getsUnit es q e = true) := fun e he h => by
    rw [flowShare_eq q e (positiveSum_pos he h)]
    cases getsUnit es q e <;> simp
  refine ⟨rfl, fun e _ h => flowShare_of_not_positive (Int.toNat_of_nonpos h), fun e he h => ?_,
    fun e he f hf hse hsf before hunit => ?_, fun h => sum_flowShare sorted q h⟩
  · rw [flowShare_eq q e (positiveSum_pos he h)]
    cases getsUnit es q e
    · exact .inl rfl
    · exact .inr rfl
  · refine (unit f hf hsf).2 (getsUnit_of_before (positive f hsf) ?_ ((unit e he hse).1 hunit))
    exact (f.before_iff e q _).2 before

end

/-! # Proofs: the allocation -/

section
namespace Sys2Proof.Machine

/-! ## Rank order, equal ranks in order of port number (R53) -/

/-- The first stands before the second in the order in which offers are served. -/
abbrev ServedBefore {α : Type} (rank : α → Nat) (port : α → PortId) (o n : α) : Prop :=
  rank o < rank n ∨ (rank o = rank n ∧ port o < port n)

/-- A sort by rank of a list in order of port number is in the order of service. -/
theorem insertionSort_served {α : Type} (rank : α → Nat) (port : α → PortId) {os : List α}
    (h : os.Pairwise fun a b => port a < port b) :
    (os.insertionSort fun a b => rank a ≤ rank b).Pairwise (ServedBefore rank port) := by
  have insert : ∀ (a : α) (sorted : List α), sorted.Pairwise (ServedBefore rank port) → (∀ b ∈ sorted, port a < port b) →
      (sorted.orderedInsert (fun a b => rank a ≤ rank b) a).Pairwise (ServedBefore rank port) := by
    intro a sorted
    induction sorted with
    | nil => intro _ _; simp
    | cons b sorted ih =>
      intro hs hp
      obtain ⟨hb, hs'⟩ := List.pairwise_cons.1 hs
      rw [List.orderedInsert_cons]
      split
      · rename_i hab
        refine List.pairwise_cons.2 ⟨fun c hc => ?_, hs⟩
        have hac : rank a ≤ rank c := by
          rcases List.mem_cons.1 hc with rfl | hc'
          · exact hab
          · exact hab.trans ((hb c hc').elim le_of_lt fun h => h.1.le)
        exact (Nat.lt_or_eq_of_le hac).imp_right fun h => ⟨h, hp c hc⟩
      · rename_i hab
        refine List.pairwise_cons.2 ⟨fun c hc => ?_, ih hs' fun c hc => hp c (List.mem_cons_of_mem b hc)⟩
        rcases (List.mem_orderedInsert _).1 hc with rfl | hc
        · exact .inl (Nat.lt_of_not_le hab)
        · exact hb c hc
  induction os with
  | nil => simp
  | cons a os ih =>
    obtain ⟨ha, hos⟩ := List.pairwise_cons.1 h
    rw [List.insertionSort_cons]
    exact insert a _ (ih hos) fun b hb => ha b ((List.mem_insertionSort _).1 hb)

/-! ## The offers of each mode -/

/-- The FOLLOW offers, in order of port number. -/
def followParts (parts : List (PortId × Offer)) : List Follow :=
  parts.filterMap fun (p, o) =>
    match o with
    | .follow cmin cmax rank ramp => some { port := p, cmin := cmin, cmax := cmax, rank := rank, ramp := ramp }
    | .off => none
    | .fixed _ _ _ => none
    | .store _ _ _ => none

/-- The STORE offers, in order of port number. -/
def storeParts (parts : List (PortId × Offer)) : List Store :=
  parts.filterMap fun (p, o) =>
    match o with
    | .store rank discharge charge => some { port := p, rank := rank, discharge := discharge, charge := charge }
    | .off => none
    | .fixed _ _ _ => none
    | .follow _ _ _ _ => none

theorem follows_perm (parts : List (PortId × Offer)) : (follows parts).Perm (followParts parts) := List.perm_insertionSort _ _

theorem stores_perm (parts : List (PortId × Offer)) : (stores parts).Perm (storeParts parts) := List.perm_insertionSort _ _

theorem mem_fixedShares {parts : List (PortId × Offer)} {p : PortId} {x : Int} :
    (p, x) ∈ fixedShares parts ↔ ∃ f cmin cmax, (p, Offer.fixed f cmin cmax) ∈ parts ∧ x = clampInt f cmin cmax := by
  rw [fixedShares, List.mem_filterMap]
  constructor
  · rintro ⟨⟨q, o⟩, ho, hx⟩
    cases o with
    | fixed f cmin cmax => cases hx; exact ⟨f, cmin, cmax, ho, rfl⟩
    | _ => cases hx
  · rintro ⟨f, cmin, cmax, ho, rfl⟩
    exact ⟨_, ho, rfl⟩

theorem mem_follows {parts : List (PortId × Offer)} {o : Follow} :
    o ∈ follows parts ↔ (o.port, Offer.follow o.cmin o.cmax o.rank o.ramp) ∈ parts := by
  rw [(follows_perm parts).mem_iff, followParts, List.mem_filterMap]
  constructor
  · rintro ⟨⟨q, n⟩, hn, ho⟩
    cases n with
    | follow cmin cmax rank ramp => cases ho; exact hn
    | _ => cases ho
  · exact fun ho => ⟨_, ho, rfl⟩

theorem mem_stores {parts : List (PortId × Offer)} {o : Store} :
    o ∈ stores parts ↔ (o.port, Offer.store o.rank o.discharge o.charge) ∈ parts := by
  rw [(stores_perm parts).mem_iff, storeParts, List.mem_filterMap]
  constructor
  · rintro ⟨⟨q, n⟩, hn, ho⟩
    cases n with
    | store rank discharge charge => cases ho; exact hn
    | _ => cases ho
  · exact fun ho => ⟨_, ho, rfl⟩

/-- What is chosen of the parts, each under its own port, is in order of port number where the parts are. -/
theorem pairwise_port_filterMap {α : Type} (port : α → PortId) {f : PortId × Offer → Option α}
    (hf : ∀ e a, f e = some a → port a = e.1) {parts : List (PortId × Offer)} (h : parts.Pairwise fun a b => a.1 < b.1) :
    (parts.filterMap f).Pairwise fun a b => port a < port b :=
  List.Pairwise.filterMap f (fun e d hlt a ha b hb => by rw [hf e a ha, hf d b hb]; exact hlt) h

theorem followParts_sorted {parts : List (PortId × Offer)} (h : parts.Pairwise fun a b => a.1 < b.1) :
    (followParts parts).Pairwise fun a b => a.port < b.port :=
  pairwise_port_filterMap Follow.port (fun ⟨p, o⟩ a ha => by cases o <;> cases ha; rfl) h

theorem storeParts_sorted {parts : List (PortId × Offer)} (h : parts.Pairwise fun a b => a.1 < b.1) :
    (storeParts parts).Pairwise fun a b => a.port < b.port :=
  pairwise_port_filterMap Store.port (fun ⟨p, o⟩ a ha => by cases o <;> cases ha; rfl) h

/-! ## What each offer is served (R55 to R57) -/

theorem clampInt_bounds {a b : Int} (h : a ≤ b) (x : Int) : a ≤ clampInt x a b ∧ clampInt x a b ≤ b := by
  unfold clampInt; split <;> [skip; split] <;> omega

/-- The `k`th FOLLOW offer is served from what the desired shares before it have left. -/
theorem serveFollows_getElem {os : List Follow} {r : Int} {k : Nat} {o : Follow} (h : os[k]? = some o) :
    (serveFollows os r)[k]? = some (o, o.desired (r - (((serveFollows os r).take k).map (·.2)).sum)) := by
  induction os generalizing r k with
  | nil => simp at h
  | cons n os ih =>
    cases k with
    | zero =>
      obtain rfl : n = o := by simpa using h
      simp [serveFollows]
    | succ k =>
      simp only [serveFollows, List.getElem?_cons_succ, List.take_succ_cons, List.map_cons, List.sum_cons] at h ⊢
      rw [ih h, sub_sub]

theorem serveFollows_map_fst (os : List Follow) (r : Int) : (serveFollows os r).map (·.1) = os := by
  induction os generalizing r with
  | nil => rfl
  | cons o os ih => rw [serveFollows, List.map_cons, ih]

/-- The `k`th STORE offer is served from what the shares before it have left. -/
theorem serveStores_getElem {os : List Store} {l : Int} {k : Nat} {o : Store} (h : os[k]? = some o) :
    (serveStores os l)[k]? = some (o.port, o.share (l - shareSum ((serveStores os l).take k))) := by
  induction os generalizing l k with
  | nil => simp at h
  | cons n os ih =>
    cases k with
    | zero =>
      obtain rfl : n = o := by simpa using h
      simp [serveStores, shareSum]
    | succ k =>
      simp only [serveStores, List.getElem?_cons_succ, List.take_succ_cons, shareSum, List.map_cons, List.sum_cons] at h ⊢
      rw [ih h, shareSum, sub_sub]

theorem serveStores_map_fst (os : List Store) (l : Int) : (serveStores os l).map (·.1) = os.map (·.port) := by
  induction os generalizing l with
  | nil => rfl
  | cons o os ih => rw [serveStores, List.map_cons, ih, List.map_cons]

/-! ## The three lists of an allocation -/

section
variable (parts : List (PortId × Offer)) (adjusted : Nat) (previous : PortId → Int)

theorem allocate_fixed : (allocate parts adjusted previous).fixed = fixedShares parts := rfl

theorem allocate_follow : (allocate parts adjusted previous).follow =
    (serveFollows (follows parts) (adjusted - shareSum (fixedShares parts))).map fun e =>
      (e.1.port, e.2, e.1.ramped e.2 (previous e.1.port)) := rfl

theorem allocate_store : (allocate parts adjusted previous).store = serveStores (stores parts)
    (adjusted - shareSum (fixedShares parts) - ((allocate parts adjusted previous).follow.map (·.2.2)).sum) := rfl

theorem allocate_follow_ports : (allocate parts adjusted previous).follow.map (·.1) = (follows parts).map (·.port) := by
  rw [allocate_follow, List.map_map]
  conv_rhs => rw [← serveFollows_map_fst (follows parts) (adjusted - shareSum (fixedShares parts)), List.map_map]
  rfl

theorem allocate_store_ports : (allocate parts adjusted previous).store.map (·.1) = (stores parts).map (·.port) := by
  rw [allocate_store, serveStores_map_fst]

end

end Sys2Proof.Machine

open Sys2Proof.Machine in
/-- Settles O22, list by list. -/
theorem allocationServesInOrder : Obligations.AllocationServesInOrder := by
  intro parts adjusted previous sorted
  dsimp only
  refine ⟨fun p x => mem_fixedShares, fun o => mem_follows, fun o => mem_stores,
    insertionSort_served Follow.rank Follow.port (followParts_sorted sorted),
    insertionSort_served Store.rank Store.port (storeParts_sorted sorted), ?_, ?_, fun k o h => ?_, fun k o h => ?_, rfl⟩
  · simpa using congrArg List.length (allocate_follow_ports parts adjusted previous)
  · simpa using congrArg List.length (allocate_store_ports parts adjusted previous)
  · refine ⟨_, _, ?_, rfl, rfl⟩
    rw [allocate_follow, List.getElem?_map, serveFollows_getElem h, ← List.map_take, List.map_map]
    rfl
  · refine ⟨_, ?_, rfl⟩
    rw [allocate_store, serveStores_getElem h]
    rfl

end

/-! # Proofs: the shares of a record and the laws of the records -/

section
namespace Sys2Proof.Machine

/-! ## Looking a port up in a list of shares -/

theorem find_port {β : Type} {xs : List (PortId × β)} (nodup : (xs.map (·.1)).Nodup) {e : PortId × β} (he : e ∈ xs) :
    xs.find? (·.1 = e.1) = some e := by
  obtain ⟨d, hd⟩ := Option.isSome_iff_exists.1
    ((List.find?_isSome (p := fun d : PortId × β => decide (d.1 = e.1))).2 ⟨e, he, by simp⟩)
  rw [hd]
  have key : d.1 = e.1 := by simpa using List.find?_some hd
  exact congrArg some (List.inj_on_of_nodup_map nodup (List.mem_of_find?_eq_some hd) he key)

theorem shareIn_of_mem {xs : List (PortId × Int)} (nodup : (xs.map (·.1)).Nodup) {e : PortId × Int} (he : e ∈ xs) :
    shareIn xs e.1 = e.2 := by
  rw [shareIn, find_port nodup he]

/-- The shares looked up for the ports of a list, in any order, make its sum. -/
theorem sum_shareIn {xs : List (PortId × Int)} (nodup : (xs.map (·.1)).Nodup) {ps : List PortId} (h : ps.Perm (xs.map (·.1))) :
    (ps.map (shareIn xs)).sum = shareSum xs := by
  rw [(h.map _).sum_eq, List.map_map, shareSum]
  exact congrArg _ (List.map_congr_left fun e he => shareIn_of_mem nodup he)

/-! ## The entries of an allocation -/

/-- The shares of the FOLLOW offers, by port. -/
def Allocation.followed (a : Allocation) : List (PortId × Int) := a.follow.map fun e => (e.1, e.2.2)

theorem Allocation.entry_follow_share (a : Allocation) (p : PortId) (cmin cmax rank ramp : Nat) :
    (a.entry p (.follow cmin cmax rank ramp)).1 = shareIn a.followed p := by
  rw [shareIn, Allocation.followed, List.find?_map, Allocation.entry]
  change _ = match Option.map _ (a.follow.find? fun e => decide (e.1 = p)) with
    | some (e : PortId × Int) => e.2
    | none => 0
  cases a.follow.find? fun e => decide (e.1 = p) <;> rfl

/-- The shares of the parts are those of the three lists, offer by offer. -/
theorem Allocation.sum_entries (a : Allocation) (parts : List (PortId × Offer)) :
    (parts.map fun e => (a.entry e.1 e.2).1).sum =
      (((fixedShares parts).map (·.1)).map (shareIn a.fixed)).sum
        + (((followParts parts).map (·.port)).map (shareIn a.followed)).sum
        + (((storeParts parts).map (·.port)).map (shareIn a.store)).sum := by
  induction parts with
  | nil => rfl
  | cons e parts ih =>
    obtain ⟨p, o⟩ := e
    rw [List.map_cons, List.sum_cons, ih]
    cases o with
    | off => exact zero_add _
    | fixed f cmin cmax =>
      simp only [fixedShares, followParts, storeParts, List.filterMap_cons, List.map_cons, List.sum_cons, Allocation.entry]
      omega
    | follow cmin cmax rank ramp =>
      rw [Allocation.entry_follow_share]
      simp only [fixedShares, followParts, storeParts, List.filterMap_cons, List.map_cons, List.sum_cons]
      omega
    | store rank discharge charge =>
      simp only [fixedShares, followParts, storeParts, List.filterMap_cons, List.map_cons, List.sum_cons, Allocation.entry]
      omega

theorem allocate_follow_perm (parts : List (PortId × Offer)) (adjusted : Nat) (previous : PortId → Int) :
    ((followParts parts).map (·.port)).Perm ((allocate parts adjusted previous).follow.map (·.1)) := by
  rw [allocate_follow_ports]
  exact ((follows_perm parts).map _).symm

theorem allocate_store_perm (parts : List (PortId × Offer)) (adjusted : Nat) (previous : PortId → Int) :
    ((storeParts parts).map (·.port)).Perm ((allocate parts adjusted previous).store.map (·.1)) := by
  rw [allocate_store_ports]
  exact ((stores_perm parts).map _).symm

section
variable {parts : List (PortId × Offer)} (sorted : parts.Pairwise fun a b => a.1 < b.1) (adjusted : Nat)
  (previous : PortId → Int)
include sorted

theorem fixedShares_nodup : ((fixedShares parts).map (·.1)).Nodup :=
  List.pairwise_map.2 <| (pairwise_port_filterMap Prod.fst (fun ⟨p, o⟩ a ha => by cases o <;> cases ha; rfl) sorted).imp
    fun hlt => hlt.ne

theorem allocate_follow_nodup : ((allocate parts adjusted previous).follow.map (·.1)).Nodup :=
  (allocate_follow_perm parts adjusted previous).nodup_iff.1
    (List.pairwise_map.2 ((followParts_sorted sorted).imp fun hlt => hlt.ne))

theorem allocate_store_nodup : ((allocate parts adjusted previous).store.map (·.1)).Nodup :=
  (allocate_store_perm parts adjusted previous).nodup_iff.1
    (List.pairwise_map.2 ((storeParts_sorted sorted).imp fun hlt => hlt.ne))

/-- The shares and U make D′ (R58). -/
theorem sum_shares_add_unmet :
    (((allocate parts adjusted previous).shares parts).map (·.share)).sum + (allocate parts adjusted previous).unmet adjusted =
      adjusted := by
  have keys : (allocate parts adjusted previous).followed.map (·.1) = (allocate parts adjusted previous).follow.map (·.1) := by
    rw [Allocation.followed, List.map_map]; rfl
  have total : shareSum (allocate parts adjusted previous).followed =
      ((allocate parts adjusted previous).follow.map (·.2.2)).sum := by
    rw [shareSum, Allocation.followed, List.map_map]; rfl
  have entries : ((allocate parts adjusted previous).shares parts).map (·.share) =
      parts.map fun e => ((allocate parts adjusted previous).entry e.1 e.2).1 := by
    rw [Allocation.shares, List.map_map]; rfl
  rw [entries, Allocation.sum_entries, allocate_fixed, sum_shareIn (fixedShares_nodup sorted) (List.Perm.refl _),
    sum_shareIn (keys ▸ allocate_follow_nodup sorted adjusted previous) (keys ▸ allocate_follow_perm parts adjusted previous),
    sum_shareIn (allocate_store_nodup sorted adjusted previous) (allocate_store_perm parts adjusted previous), total,
    Allocation.unmet, allocate_fixed]
  omega

end

/-! ## The records that a dispatch publishes -/

theorem State.parts_sorted (s : State) : s.parts.Pairwise fun a b => a.1 < b.1 := by
  refine List.Pairwise.filterMap _ (fun p q hlt a ha b hb => ?_) (List.pairwise_lt_finRange 4)
  have key : ∀ {p : PortId} {a : PortId × Offer},
      (if (s.port p).profile = .plant ∧ (s.port p).state = .live then (s.offer p).map fun o => (p, o) else none) = some a →
        a.1 = p := fun {p a} h => by
    split at h
    · obtain ⟨o, -, rfl⟩ := Option.map_eq_some_iff.1 h; rfl
    · cases h
  rw [key ha, key hb]
  exact hlt

theorem Allocation.shares_sorted (a : Allocation) {parts : List (PortId × Offer)}
    (sorted : parts.Pairwise fun a b => a.1 < b.1) : (a.shares parts).Pairwise fun d e => d.port < e.port :=
  List.pairwise_map.2 sorted

theorem withFlow_shares (es : List ShareEntry) (q : Nat) : (withFlow es q).map (·.share) = es.map (·.share) := by
  rw [withFlow, List.map_map]; rfl

theorem withFlow_flows (es : List ShareEntry) (q : Nat) : (withFlow es q).map (·.flow) = es.map (flowShare es q) := by
  rw [withFlow, List.map_map]; rfl

theorem withFlow_sorted {es : List ShareEntry} (q : Nat) (sorted : es.Pairwise fun d e => d.port < e.port) :
    (withFlow es q).Pairwise fun d e => d.port < e.port := List.pairwise_map.2 sorted

theorem mem_withFlow {es : List ShareEntry} {q : Nat} {e : ShareEntry} :
    e ∈ withFlow es q ↔ ∃ d ∈ es, e = { d with flow := flowShare es q d } := by
  simp [withFlow, eq_comm]

theorem State.runRecord_sound (s : State) : s.runRecord.Sound := by
  have sorted := Allocation.shares_sorted (allocate s.parts s.runRecord.adjusted s.previousShare) s.parts_sorted
  refine ⟨?_, .inl ⟨rfl, rfl⟩, withFlow_sorted s.runRecord.flow sorted, fun e he hneg => ?_, ?_, rfl⟩
  · exact (congrArg (· + s.runRecord.unmet) (congrArg List.sum (withFlow_shares _ s.runRecord.flow))).trans
      (sum_shares_add_unmet s.parts_sorted _ _)
  · obtain ⟨d, -, rfl⟩ := mem_withFlow.1 he
    exact flowShare_of_not_positive (Int.toNat_of_nonpos hneg)
  · rintro ⟨e, he, hpos⟩
    obtain ⟨d, hd, rfl⟩ := mem_withFlow.1 he
    exact (congrArg List.sum (withFlow_flows _ s.runRecord.flow)).trans (sum_flowShare sorted _ (positiveSum_pos hd hpos))

theorem State.fallbackRecord_sound (s : State) : s.fallbackRecord.Sound :=
  ⟨zero_add _, .inr ⟨rfl, rfl, rfl⟩, .nil, nofun, fun ⟨_, he, _⟩ => (nomatch he), rfl⟩

end Sys2Proof.Machine
end

/-! # Proofs: the shares of a RUN record -/

section
namespace Sys2Proof.Machine

theorem State.mem_parts {s : State} {p : PortId} {o : Offer} :
    (p, o) ∈ s.parts ↔ (s.port p).profile = .plant ∧ (s.port p).state = .live ∧ s.offer p = some o := by
  rw [State.parts, List.mem_filterMap]
  constructor
  · rintro ⟨q, -, hq⟩
    split at hq
    · rename_i hl
      obtain ⟨n, hn, he⟩ := Option.map_eq_some_iff.1 hq
      cases he
      exact ⟨hl.1, hl.2, hn⟩
    · cases hq
  · rintro ⟨hp, hl, ho⟩
    exact ⟨p, mem_portIds p, by rw [if_pos ⟨hp, hl⟩, ho]; rfl⟩

/-! ## The share of each part -/

/-- A FOLLOW share is 0 or lies within the band of its offer (R55, R56). -/
theorem Follow.ramped_bounds {o : Follow} (h : o.cmin ≤ o.cmax) (r previous : Int) :
    o.ramped (o.desired r) previous = 0
      ∨ ((o.cmin : Int) ≤ o.ramped (o.desired r) previous ∧ o.ramped (o.desired r) previous ≤ o.cmax) := by
  have h : (o.cmin : Int) ≤ o.cmax := Int.ofNat_le.2 h
  have desired : o.desired r = 0 ∨ ((o.cmin : Int) ≤ o.desired r ∧ o.desired r ≤ o.cmax) := by
    unfold Follow.desired
    split <;> omega
  unfold Follow.ramped
  split
  · exact .inl rfl
  · split
    · exact desired
    · split
      · omega
      · exact .inr (clampInt_bounds h _)

/-- A STORE share lies within the limits of its offer (R57). -/
theorem Store.share_bounds (o : Store) (l : Int) : -(o.charge : Int) ≤ o.share l ∧ o.share l ≤ o.discharge := by
  unfold Store.share
  split <;> [skip; split] <;> omega

section
variable {parts : List (PortId × Offer)} (sorted : parts.Pairwise fun a b => a.1 < b.1) (adjusted : Nat)
  (previous : PortId → Int) {p : PortId}
include sorted

theorem entry_fixed {f cmin cmax : Nat} (h : (p, Offer.fixed f cmin cmax) ∈ parts) :
    (p, clampInt f cmin cmax) ∈ (allocate parts adjusted previous).fixed
      ∧ (allocate parts adjusted previous).entry p (.fixed f cmin cmax) = (clampInt f cmin cmax, false) := by
  have mem : (p, clampInt f cmin cmax) ∈ (allocate parts adjusted previous).fixed := mem_fixedShares.2 ⟨f, cmin, cmax, h, rfl⟩
  exact ⟨mem, congrArg (·, false) (shareIn_of_mem (fixedShares_nodup sorted) mem)⟩

theorem entry_follow {cmin cmax rank ramp : Nat} (h : (p, Offer.follow cmin cmax rank ramp) ∈ parts) :
    ∃ desired share, (p, desired, share) ∈ (allocate parts adjusted previous).follow
      ∧ (allocate parts adjusted previous).entry p (.follow cmin cmax rank ramp) = (share, decide (share ≠ desired))
      ∧ (cmin ≤ cmax → share = 0 ∨ ((cmin : Int) ≤ share ∧ share ≤ cmax)) := by
  obtain ⟨k, hk⟩ := List.mem_iff_getElem?.1 (mem_follows.2 h : (⟨p, cmin, cmax, rank, ramp⟩ : Follow) ∈ follows parts)
  have mem := List.mem_map_of_mem (f := fun e : Follow × Int => (e.1.port, e.2, e.1.ramped e.2 (previous e.1.port)))
    (List.mem_of_getElem? (serveFollows_getElem (r := adjusted - shareSum (fixedShares parts)) hk))
  rw [← allocate_follow] at mem
  refine ⟨_, _, mem, ?_, fun hc => Follow.ramped_bounds hc _ _⟩
  simp only [Allocation.entry, find_port (allocate_follow_nodup sorted adjusted previous) mem]

theorem entry_store {rank discharge charge : Nat} (h : (p, Offer.store rank discharge charge) ∈ parts) :
    ∃ share, (p, share) ∈ (allocate parts adjusted previous).store
      ∧ (allocate parts adjusted previous).entry p (.store rank discharge charge) = (share, false)
      ∧ -(charge : Int) ≤ share ∧ share ≤ discharge := by
  obtain ⟨k, hk⟩ := List.mem_iff_getElem?.1 (mem_stores.2 h : (⟨p, rank, discharge, charge⟩ : Store) ∈ stores parts)
  have mem := List.mem_of_getElem? (serveStores_getElem hk
    (l := adjusted - shareSum (fixedShares parts) - ((allocate parts adjusted previous).follow.map (·.2.2)).sum))
  rw [← allocate_store] at mem
  refine ⟨_, mem, ?_, Store.share_bounds _ _⟩
  rw [Allocation.entry, shareIn_of_mem (allocate_store_nodup sorted adjusted previous) mem]

/-- What an entry of the share list says of the offer it serves: its share is that of the allocation's list, and lies where the
offer has it. -/
def EntryServes (a : Allocation) (e : ShareEntry) : Offer → Prop
  | .off => e.share = 0 ∧ e.flow = 0 ∧ e.ramped = false
  | .fixed f cmin cmax => (e.port, e.share) ∈ a.fixed ∧ e.share = clampInt f cmin cmax ∧ e.ramped = false
  | .follow cmin cmax _ _ =>
    (∃ desired, (e.port, desired, e.share) ∈ a.follow ∧ (e.ramped = true ↔ e.share ≠ desired))
      ∧ (cmin ≤ cmax → e.share = 0 ∨ ((cmin : Int) ≤ e.share ∧ e.share ≤ cmax))
  | .store _ discharge charge =>
    (e.port, e.share) ∈ a.store ∧ -(charge : Int) ≤ e.share ∧ e.share ≤ discharge ∧ e.ramped = false

theorem entryServes_of_mem {q : Nat} {e : ShareEntry}
    (he : e ∈ withFlow ((allocate parts adjusted previous).shares parts) q) :
    ∃ o, (e.port, o) ∈ parts ∧ e.mode = o.mode ∧ EntryServes (allocate parts adjusted previous) e o := by
  obtain ⟨d, hd, rfl⟩ := mem_withFlow.1 he
  obtain ⟨⟨p, o⟩, ho, rfl⟩ := List.mem_map.1 hd
  refine ⟨o, ho, rfl, ?_⟩
  cases o with
  | off =>
    have none : flowShare ((allocate parts adjusted previous).shares parts) q ⟨p, .off, 0, 0, false⟩ = 0 :=
      flowShare_of_not_positive rfl
    exact ⟨rfl, none, rfl⟩
  | fixed f cmin cmax =>
    obtain ⟨mem, entry⟩ := entry_fixed sorted adjusted previous ho
    simp only [EntryServes, entry, and_true]
    exact mem
  | follow cmin cmax rank ramp =>
    obtain ⟨desired, share, mem, entry, bounds⟩ := entry_follow sorted adjusted previous ho
    simp only [EntryServes, entry, decide_eq_true_eq]
    exact ⟨⟨desired, mem, Iff.rfl⟩, bounds⟩
  | store rank discharge charge =>
    obtain ⟨share, mem, entry, low, high⟩ := entry_store sorted adjusted previous ho
    simp only [EntryServes, entry, and_true]
    exact ⟨mem, low, high⟩

end

/-- Every part has its entry. -/
theorem Allocation.exists_entry {a : Allocation} {parts : List (PortId × Offer)} {q : Nat} {p : PortId} {o : Offer}
    (h : (p, o) ∈ parts) : ∃ e ∈ withFlow (a.shares parts) q, e.port = p :=
  ⟨_, mem_withFlow.2 ⟨_, List.mem_map.2 ⟨_, h, rfl⟩, rfl⟩, rfl⟩

/-- A dispatch reaches RUN by way of `enterRun` alone. -/
theorem exec_dispatchExpiry_of_run {s t : State} (on : s.powered = true) (h : exec .dispatchExpiry s = .next t)
    (run : t.mode = .run) :
    t.current = some (s.await s.dispatchDue).enterRun.runRecord := by
  rw [exec_dispatchExpiry on] at h
  cases h
  cases hm : (s.await s.dispatchDue).modeAtExpiry with
  | starting =>
    rw [State.dispatchOnce_of_starting hm, (State.modeAtExpiry_eq_starting.1 hm).1] at run
    cases run
  | run => rw [State.dispatchOnce_of_run hm]; rfl
  | fallback =>
    rw [State.dispatchOnce_of_fallback hm] at run
    exact absurd ((WorkFrame.reachFallback _).mode.symm.trans run) nofun

end Sys2Proof.Machine

open Sys2Proof.Machine in
/-- Settles O23: the record is `runRecord`, and each part's entry is judged by the mode of its offer. -/
theorem runSharesLieWithinOffers : Obligations.RunSharesLieWithinOffers := by
  intro s t on owners h run previous
  have held : previous = (s.await s.dispatchDue).enterRun.previousShare := by
    funext p
    change _ = s.previousShare p
    unfold previous State.previousShare
    cases s.current with
    | none => rfl
    | some c =>
      dsimp only
      cases c.shares.find? (·.port = p) <;> rfl
  clear_value previous
  subst held
  have sorted := s.parts_sorted
  refine ⟨_, s.parts, exec_dispatchExpiry_of_run on h run, sorted, fun p o => State.mem_parts,
    ⟨rfl, rfl, fun hu => ?_, fun hu => ?_, fun hu => ?_, fun e he => ?_⟩, fun p => ?_, fun e he => ?_⟩
  · exact if_pos hu
  · exact (if_neg hu.ne').trans (if_pos hu)
  · exact (if_neg hu.ne).trans (if_neg hu.not_gt)
  · obtain ⟨o, -, mode, serves⟩ := entryServes_of_mem sorted _ _ he
    rw [mode]
    refine ⟨fun hmode => ?_, fun hmode => ?_, fun hmode => ?_⟩ <;> cases o <;> cases hmode
    · exact serves.1
    · exact serves.1
    · exact serves.1
  · constructor
    · rintro ⟨e, he, rfl⟩
      obtain ⟨o, ho, -⟩ := entryServes_of_mem sorted _ _ he
      obtain ⟨hp, hl, ho⟩ := State.mem_parts.1 ho
      exact ⟨hp, hl, Option.isSome_iff_exists.2 ⟨o, ho⟩⟩
    · rintro ⟨hp, hl, ho⟩
      obtain ⟨o, ho⟩ := Option.isSome_iff_exists.1 ho
      exact Allocation.exists_entry (State.mem_parts.2 ⟨hp, hl, ho⟩)
  · obtain ⟨o, ho, mode, serves⟩ := entryServes_of_mem sorted _ _ he
    have offered := (State.mem_parts.1 ho).2.2
    have inRange := (owners.1 _ o offered).1
    refine ⟨o, offered, mode, ?_⟩
    cases o with
    | off => exact serves
    | fixed f cmin cmax =>
      obtain ⟨-, share, ramped⟩ := serves
      have band : cmin ≤ cmax := by simp [Offer.inRange] at inRange; omega
      have bounds := clampInt_bounds (Int.ofNat_le.2 band) f
      rw [← share] at bounds
      exact ⟨share, bounds.1, bounds.2, ramped⟩
    | follow cmin cmax rank ramp =>
      have band : cmin ≤ cmax := by simp [Offer.inRange] at inRange; omega
      exact serves.2 band
    | store rank discharge charge => exact serves.2

end

/-! # Proofs: the laws of the dispatch records -/

section
namespace Sys2Proof.Machine

/-! ## What the laws of the records speak of -/

/-- The records with their number, the mode and the fallback-clear mark. -/
def State.recordPart (s : State) : Option Record × Option Record × Nat × NetMode × Bool :=
  (s.current, s.previous, s.sequence, s.mode, s.clearMark)

theorem State.RecordsSound.of_part {s t : State} (h : t.recordPart = s.recordPart) (k : s.RecordsSound) : t.RecordsSound := by
  obtain ⟨hcurrent, hprevious, hsequence, hmode, hmark⟩ : t.current = s.current ∧ t.previous = s.previous
      ∧ t.sequence = s.sequence ∧ t.mode = s.mode ∧ t.clearMark = s.clearMark := by
    simpa [State.recordPart] using h
  unfold State.RecordsSound at k ⊢
  rwa [hcurrent, hprevious, hsequence, hmode, hmark]

theorem WorkFrame.recordPart {s t : State} (h : WorkFrame s t) : t.recordPart = s.recordPart := by rw [h.1]; rfl

theorem TableFrame.recordPart {s t : State} (h : TableFrame s t) : t.recordPart = s.recordPart :=
  WorkFrame.recordPart (s := { s with images := t.images }) h

theorem recordPart_foldl {α : Type} (f : State → α → State) (h : ∀ s x, (f s x).recordPart = s.recordPart) (xs : List α)
    (s : State) : (xs.foldl f s).recordPart = s.recordPart := by
  induction xs generalizing s with
  | nil => rfl
  | cons x xs ih => rw [List.foldl_cons, ih, h]

/-! ## Single writes leave the records alone -/

@[simp] theorem recordPart_setPort (s : State) (p : PortId) (x : Port) : (s.setPort p x).recordPart = s.recordPart := rfl
@[simp] theorem recordPart_eachPort (s : State) (f : Port → Port) : (s.eachPort f).recordPart = s.recordPart := rfl
@[simp] theorem recordPart_setImage (s : State) (l : Station) (x : Image) : (s.setImage l x).recordPart = s.recordPart := rfl
@[simp] theorem recordPart_setOffer (s : State) (p : PortId) (x : Option Offer) :
    (s.setOffer p x).recordPart = s.recordPart := rfl
@[simp] theorem recordPart_setMap (s : State) (l : Station) (m : MapPart) : (s.setMap l m).recordPart = s.recordPart := rfl
@[simp] theorem recordPart_setParams (s : State) (x : Params) : (s.setParams x).recordPart = s.recordPart := rfl
@[simp] theorem recordPart_await (s : State) (n : Nat) : (s.await n).recordPart = s.recordPart := rfl
@[simp] theorem recordPart_setTrunk (s : State) (t : TrunkId) (x : Trunk) : (s.setTrunk t x).recordPart = s.recordPart := by
  cases t <;> rfl
@[simp] theorem recordPart_setRefused (s : State) (t : TrunkId) (x : List Nat) :
    (s.setRefused t x).recordPart = s.recordPart := by cases t <;> rfl
@[simp] theorem recordPart_setSlotEntry (s : State) (t : TrunkId) (i : EntryIndex) (x : SlotEntry) :
    (s.setSlotEntry t i x).recordPart = s.recordPart := by cases t <;> rfl
@[simp] theorem recordPart_raiseCandidate (s : State) : s.raiseCandidate.recordPart = s.recordPart := rfl

/-! ## Shared operations that leave them alone -/

@[simp] theorem recordPart_offerIfRoom (s : State) (t : TrunkId) (l : Station) (item : Item) (value : Option Nat)
    (o : Originator) : (s.offerIfRoom t l item value o).recordPart = s.recordPart :=
  (WorkFrame.offerIfRoom s t l item value o).recordPart
@[simp] theorem recordPart_endInFlight (s : State) (t : TrunkId) (e : CommandEntry) (o : CommandEnd) :
    (s.endInFlight t e o).recordPart = s.recordPart := (WorkFrame.endInFlight s t e o).recordPart
@[simp] theorem recordPart_setInFlight (s : State) (t : TrunkId) (e : CommandEntry) :
    (s.setInFlight t e).recordPart = s.recordPart := (WorkFrame.setInFlight s t e).recordPart
@[simp] theorem recordPart_waitAgain (s : State) (t : TrunkId) (e : CommandEntry) :
    (s.waitAgain t e).recordPart = s.recordPart := (WorkFrame.waitAgain s t e).recordPart
@[simp] theorem recordPart_enterLost (s : State) (l : Station) : (s.enterLost l).recordPart = s.recordPart :=
  (s.enterLost_frame l).recordPart
@[simp] theorem recordPart_leaveLive (s : State) (p : PortId) : (s.leaveLive p).recordPart = s.recordPart :=
  (WorkFrame.releaseOwned _ p).recordPart
@[simp] theorem recordPart_bindingChange (s : State) (l : Station) (m : MapPart) :
    (s.bindingChange l m).recordPart = s.recordPart := (s.bindingChange_frame l m).recordPart
@[simp] theorem recordPart_enterStopped (s : State) (t : TrunkId) : (s.enterStopped t).recordPart = s.recordPart := by
  simp [State.enterStopped]

@[simp] theorem recordPart_fail (s : State) (p : PortId) : (s.fail p).recordPart = s.recordPart := by
  simp only [State.fail, State.raise_eq, recordPart_setPort]
  split <;> simp

@[simp] theorem recordPart_halt (s : State) (t : TrunkId) (kind : FaultKind) (frame : Option FrameKind) :
    (s.halt t kind frame).recordPart = s.recordPart := by
  have abandon : (s.abandon t).recordPart = s.recordPart := by
    unfold State.abandon
    split
    · rfl
    · dsimp only
      rw [State.modifyTrunk_eq, recordPart_setTrunk]
      split
      · exact (WorkFrame.abandonCommand s t).recordPart
      · rfl
  simp [State.halt, abandon]

@[simp] theorem recordPart_afterExchange (s : State) (t : TrunkId) (kind : ExchangeKind) (failed : Bool) :
    (s.afterExchange t kind failed).recordPart = s.recordPart := by
  unfold State.afterExchange
  split <;> [skip; split] <;> simp

@[simp] theorem recordPart_removeBoundCandidates (s : State) (m : MapPart) :
    (s.removeBoundCandidates m).recordPart = s.recordPart := by
  unfold State.removeBoundCandidates
  dsimp only
  split <;> rfl

/-! ## Results of exchanges -/

@[simp] theorem recordPart_pollIfAttention (s : State) (l : Station) (status : StatusSet) :
    (s.pollIfAttention l status).recordPart = s.recordPart := by
  unfold State.pollIfAttention
  split <;> simp [State.offerPoll]

@[simp] theorem recordPart_tableResult (s : State) (stamp : Stamp) (r : StationResult) :
    (s.tableResult stamp r).recordPart = s.recordPart := by
  unfold State.tableResult
  split
  · cases r with
    | good r status =>
      dsimp only [State.goodReply]
      rw [recordPart_pollIfAttention]
      split <;> simp
    | sensorFault status => simp [State.sensorFaultReply]
    | miss =>
      dsimp only [State.stationMiss]
      split <;> simp
  · rfl

@[simp] theorem recordPart_storePoll (s : State) (e : CommandEntry) (status : StatusSet) :
    (s.storePoll e status).recordPart = s.recordPart := by
  unfold State.storePoll
  split <;> [split; skip; skip] <;> simp

@[simp] theorem recordPart_chargeMiss (s : State) (t : TrunkId) (e : CommandEntry) :
    (s.chargeMiss t e).recordPart = s.recordPart := by
  unfold State.chargeMiss
  dsimp only
  split <;> [skip; split] <;> simp

@[simp] theorem recordPart_commandResult (s : State) (t : TrunkId) (r : Option CommandReply) :
    (s.commandResult t r).recordPart = s.recordPart := by
  unfold State.commandResult
  split
  · rfl
  · split
    · simp
    · unfold State.commandTaken
      split
      · simp
      · split
        · split <;> simp
        · simp [State.commandEnds]

@[simp] theorem recordPart_handMiss (s : State) (t : TrunkId) (k : ExchangeKind) :
    (s.handMiss t k).recordPart = s.recordPart := by
  cases k <;> simp [State.handMiss]

@[simp] theorem recordPart_handReply (s : State) (t : TrunkId) (x : Exchange) (f : HeardFrame) :
    (s.handReply t x f).1.recordPart = s.recordPart := by
  unfold State.handReply
  split <;> simp

theorem recordPart_boundAnswers (answer : Nat → Answer) (t : TrunkId) (s : State) (l : Station) :
    (State.boundAnswers answer t s l).recordPart = s.recordPart := by
  unfold State.boundAnswers
  dsimp only
  split <;> [split; skip] <;> simp [State.offerPoll]

theorem recordPart_admissionAnswer (answer : Nat → Answer) (t : TrunkId) (s : State) (address : Nat) :
    (State.admissionAnswer answer t s address).recordPart = s.recordPart := by
  unfold State.admissionAnswer
  split
  · rfl
  · split
    · split <;> rfl
    · split
      · split
        · rfl
        · split <;> rfl
      · rfl

@[simp] theorem recordPart_rollcallAnswers (s : State) (t : TrunkId) (answer : Nat → Answer) :
    (s.rollcallAnswers t answer).recordPart = s.recordPart :=
  (recordPart_foldl _ (recordPart_admissionAnswer answer t) _ _).trans
    (recordPart_foldl _ (recordPart_boundAnswers answer t) _ _)

/-! ## The frame of a slot -/

@[simp] theorem recordPart_beginExchange (s : State) (t : TrunkId) (kind : ExchangeKind) (a : Nat) (request : List Byte) :
    (s.beginExchange t kind a request).recordPart = s.recordPart := by
  simp [State.beginExchange]

@[simp] theorem recordPart_mismatch (s : State) (t : TrunkId) (k : EntryIndex) :
    (s.mismatch t k).recordPart = s.recordPart := by
  unfold State.mismatch
  dsimp only
  split <;> simp

@[simp] theorem recordPart_scanSlot (s : State) (t : TrunkId) (k : EntryIndex) (l : Station) :
    (s.scanSlot t k l).recordPart = s.recordPart := by
  unfold State.scanSlot
  split <;> [split; skip] <;> simp

@[simp] theorem recordPart_headSlot (s : State) (t : TrunkId) (k : EntryIndex) (l : Station) :
    (s.headSlot t k l).recordPart = s.recordPart := by
  unfold State.headSlot
  dsimp only
  split
  · split
    · split <;> simp
    · simp
  · rfl

@[simp] theorem recordPart_commandSlot (s : State) (t : TrunkId) (e : CommandEntry) :
    (s.commandSlot t e).recordPart = s.recordPart := by
  unfold State.commandSlot
  split <;> simp

@[simp] theorem recordPart_slotFrame (s : State) (t : TrunkId) (k : EntryIndex) (rule : SlotRule) :
    (s.slotFrame t k rule).recordPart = s.recordPart := by
  cases rule with
  | cmdOrScan l => unfold State.slotFrame; dsimp only; split <;> simp
  | cmdOrQuiet => unfold State.slotFrame; dsimp only; split <;> simp
  | _ => simp [State.slotFrame]

/-! ## What requests carry out -/

@[simp] theorem recordPart_answerCode (s : State) (c : ResponseCode) : (answerCode s c).1.recordPart = s.recordPart := rfl

@[simp] theorem recordPart_removeCandidate (s : State) (t : TrunkId) (address : Nat) :
    (s.removeCandidate t address).recordPart = s.recordPart := rfl

theorem recordPart_answerRecord (s : State) (r : Option Record) : (answerRecord s r).1.recordPart = s.recordPart := by
  cases r <;> rfl

@[simp] theorem recordPart_helloTaken (s : State) (p : PortId) : (s.helloTaken p).recordPart = s.recordPart := by
  unfold State.helloTaken; split <;> simp

@[simp] theorem recordPart_refreshTaken (s : State) (p : PortId) : (s.refreshTaken p).recordPart = s.recordPart := by
  unfold State.refreshTaken
  split <;> [skip; skip; (split <;> [split; skip]); skip; skip] <;> simp [State.enterLive]

theorem recordPart_onTrunk {rule : State → TrunkId → Carried} (h : ∀ s t, (rule s t).1.recordPart = s.recordPart) (s : State)
    (trunk : Nat) : (onTrunk s trunk rule).1.recordPart = s.recordPart := by
  unfold onTrunk
  split
  · exact h s _
  · rfl

theorem recordPart_carryStart (s : State) (t : TrunkId) : (s.carryStart t).1.recordPart = s.recordPart := by
  unfold State.carryStart
  split <;> [split; skip; skip; skip] <;> simp [answerOk]

theorem recordPart_carryStop (s : State) (t : TrunkId) : (s.carryStop t).1.recordPart = s.recordPart := by
  unfold State.carryStop
  split <;> [split; skip; skip; skip] <;> simp [answerOk]

theorem recordPart_carryResume (s : State) (t : TrunkId) : (s.carryResume t).1.recordPart = s.recordPart := by
  unfold State.carryResume
  split <;> [split; skip; skip; skip] <;> simp [answerOk]

theorem recordPart_carryWriteMap (s : State) (index flags trunk address qc dpmin mark : Nat) :
    (s.carryWriteMap index flags trunk address qc dpmin mark).1.recordPart = s.recordPart := by
  have write : ∀ l m, (s.writeMap l m).recordPart = s.recordPart := fun l m => by
    unfold State.writeMap
    rw [recordPart_removeBoundCandidates]
    split <;> simp
  unfold State.carryWriteMap
  split
  · dsimp only
    split <;> [skip; split] <;> simp [answerOk, write]
  · rfl

theorem recordPart_carryAdmit (s : State) (trunk address index twin qc : Nat) :
    (s.carryAdmit trunk address index twin qc).1.recordPart = s.recordPart := by
  unfold State.carryAdmit
  split
  · dsimp only
    split_ifs <;> simp [answerOk]
  · rfl

theorem recordPart_carryWriteSlot (s : State) (trunk entry rule index length : Nat) :
    (s.carryWriteSlot trunk entry rule index length).1.recordPart = s.recordPart := by
  unfold State.carryWriteSlot
  split <;> [split; skip] <;> simp [answerOk]

theorem recordPart_carryWriteParam (s : State) (identifier value : Nat) :
    (s.carryWriteParam identifier value).1.recordPart = s.recordPart := by
  have after : ∀ u : State, (u.afterParam identifier).recordPart = u.recordPart := fun u => by
    unfold State.afterParam
    split
    · exact u.rejudge_loses.1.recordPart
    · exact u.rejudge_loses.1.recordPart
    all_goals rfl
  unfold State.carryWriteParam
  split <;> simp [answerOk, after]

theorem recordPart_carryOverride (s : State) (p : PortId) (index item value : Nat) :
    (s.carryOverride p index item value).1.recordPart = s.recordPart := by
  unfold State.carryOverride
  split
  · rfl
  · split
    · rfl
    · split
      · rfl
      · split_ifs
        · rfl
        · rfl
        · dsimp only [answerOk]
          split
          · exact (WorkFrame.placeOverride s _ p _ _).recordPart
          · exact (WorkFrame.replaceOverride s _ p _ _ _).recordPart

theorem recordPart_carryRelease (s : State) (p : PortId) (index : Nat) :
    (s.carryRelease p index).1.recordPart = s.recordPart := by
  unfold State.carryRelease
  split
  · rfl
  · split
    · rfl
    · dsimp only
      split_ifs <;> simp [answerOk]

theorem recordPart_carryCancel (s : State) (p : PortId) (index item : Nat) :
    (s.carryCancel p index item).1.recordPart = s.recordPart := by
  unfold State.carryCancel
  split
  · rfl
  · split
    · rfl
    · split
      · rfl
      · dsimp only
        split <;> split
        · rfl
        · exact (WorkFrame.dropEntry s _ _).recordPart
        · rfl
        · rfl

/-! ## Events -/

/-- The command leaves the records, the mode and the mark as they are. -/
abbrev LeavesRecords (s : State) (o : Host.Outcome State Fault Refusal) : Prop := Gives (fun t => t.recordPart = s.recordPart) o

theorem LeavesRecords.take {s : State} {p : PortId} {tag code : Nat} {gate : State → PortId → Option ResponseCode}
    {restarts : Bool} {f : State → Carried} (h : ∀ u, (f u).1.recordPart = u.recordPart) :
    LeavesRecords s (.next (s.take p tag code gate restarts f)) :=
  State.take_keeps (P := fun t => t.recordPart = s.recordPart) (fun _ _ _ _ hu => hu) (fun u _ hu => (h u).trans hu) rfl

theorem execReplyTimeout_records (t : TrunkId) (s : State) : LeavesRecords s (execReplyTimeout t s) := by
  unfold execReplyTimeout
  split
  · split
    · dsimp only
      split <;> simp [Gives, State.clearExchange]
    · rfl
  · rfl

theorem execReplyClosed_records (t : TrunkId) (s : State) : LeavesRecords s (execReplyClosed t s) := by
  unfold execReplyClosed
  split
  · split
    · dsimp only
      split
      · split <;> simp [Gives, State.clearExchange]
      · rfl
    · rfl
  · rfl

theorem execPairExchangeEnd_records (t : TrunkId) (s : State) : LeavesRecords s (execPairExchangeEnd t s) := by
  unfold execPairExchangeEnd
  split
  · split
    · split <;> simp [Gives, State.clearExchange]
    · rfl
  · rfl

theorem execRollcallEnd_records (t : TrunkId) (s : State) : LeavesRecords s (execRollcallEnd t s) := by
  unfold execRollcallEnd
  split
  · split
    · split
      · refine (recordPart_afterExchange _ _ _ _).trans ?_
        split <;> simp [State.clearExchange]
      · rfl
    · rfl
  · rfl

theorem execWithheldExchangeEnd_records (t : TrunkId) (s : State) : LeavesRecords s (execWithheldExchangeEnd t s) := by
  unfold execWithheldExchangeEnd
  split
  · split <;> simp [Gives, State.clearExchange]
  · rfl

theorem execLongWindowExpiry_records (p : PortId) (s : State) : LeavesRecords s (execLongWindowExpiry p s) := by
  unfold execLongWindowExpiry
  split <;> [split; split; skip] <;> simp [Gives]

theorem execRefreshWindowExpiry_records (p : PortId) (s : State) : LeavesRecords s (execRefreshWindowExpiry p s) := by
  unfold execRefreshWindowExpiry
  split <;> [split; skip] <;> simp [Gives]

theorem execLimiterExpiry_records (s : State) : LeavesRecords s (execLimiterExpiry s) := by
  unfold execLimiterExpiry
  split
  · dsimp only [Gives]
    split
    · exact (WorkFrame.evaluate _).recordPart
    all_goals rfl
  · rfl

theorem execStaleAgeExpiry_records (l : Station) (s : State) : LeavesRecords s (execStaleAgeExpiry l s) := by
  unfold execStaleAgeExpiry
  split <;> [split; skip] <;> simp [Gives, State.enterStale]

theorem execHoldLimitExpiry_records (l : Station) (s : State) : LeavesRecords s (execHoldLimitExpiry l s) := by
  unfold execHoldLimitExpiry
  split <;> [split; skip] <;> simp [Gives]

theorem execSlotStart_records (t : TrunkId) (s : State) : LeavesRecords s (execSlotStart t s) := by
  unfold execSlotStart
  split
  · dsimp only
    split <;> simp [Gives, State.startSlot]
  · rfl

theorem execRequestSent_records (t : TrunkId) (s : State) : LeavesRecords s (execRequestSent t s) := by
  unfold execRequestSent
  split <;> [split; skip] <;> simp [Gives]

theorem execTxStuck_records (t : TrunkId) (s : State) : LeavesRecords s (execTxStuck t s) := by
  unfold execTxStuck
  split <;> [split; skip] <;> simp [Gives]

theorem execTrunkByteReceived_records (t : TrunkId) (b : Byte) (ok : Bool) (s : State) :
    LeavesRecords s (execTrunkByteReceived t b ok s) := by
  unfold execTrunkByteReceived
  split
  · split
    · split <;> simp [Gives]
    · rfl
  · rfl

theorem execSaveComplete_records (s : State) : LeavesRecords s (execSaveComplete s) := by
  unfold execSaveComplete
  split <;> [split; skip] <;> rfl

/-- The command is one of the four that write the records, the mode or the mark. -/
def writesRecords : Instr → Bool
  | .fullReset _ _ _ _ | .responseComplete _ | .fallbackClear _ _ | .dispatchExpiry => true
  | _ => false

theorem exec_leavesRecords {i : Instr} (h : writesRecords i = false) (s : State) : LeavesRecords s (exec i s) := by
  have take : ∀ {p tag code gate restarts} {f : State → Carried}, (∀ u : State, (f u).1.recordPart = u.recordPart) →
      LeavesRecords s (.next (s.take p tag code gate restarts f)) := LeavesRecords.take
  cases i with
  | requestDiscarded p => change Gives _ (execRequestDiscarded p s); unfold execRequestDiscarded; split <;> rfl
  | unknownRequest p tag code => exact take fun u => rfl
  | hello p tag => exact take fun u => recordPart_helloTaken u p
  | refresh p tag => exact take fun u => recordPart_refreshTaken u p
  | setWindow p tag seconds => exact take fun u => rfl
  | status p tag => exact take fun u => rfl
  | ack p tag flags => exact take fun u => rfl
  | setMask p tag flags => exact take fun u => rfl
  | setNotify p tag mode => exact take fun u => by split <;> rfl
  | readDispatch p tag selector => 
    exact take fun u => by
      split
      · exact recordPart_answerRecord u _
      · exact recordPart_answerRecord u _
      · rfl
  | readImage p tag first count step => exact take fun u => by split <;> rfl
  | readStation p tag index => exact take fun u => by split <;> rfl
  | readQueue p tag trunk => exact take fun u => by split <;> rfl
  | readCandidates p tag => exact take fun u => rfl
  | readOutcomes p tag => exact take fun u => rfl
  | readParam p tag identifier => exact take fun u => by split <;> rfl
  | postOffer p tag mode f cmin cmax rank ramp discharge charge => exact take fun u => by split <;> rfl
  | withdrawOffer p tag => exact take fun u => by split <;> rfl
  | writeMap p tag index flags trunk address qc dpmin mark => exact take fun u => recordPart_carryWriteMap u _ _ _ _ _ _ _
  | writeSlot p tag trunk entry rule index length => exact take fun u => recordPart_carryWriteSlot u _ _ _ _ _
  | writeParam p tag identifier value => exact take fun u => recordPart_carryWriteParam u _ _
  | save p tag => exact take fun u => rfl
  | saveComplete => exact execSaveComplete_records s
  | trunkStart p tag trunk => exact take fun u => recordPart_onTrunk recordPart_carryStart u trunk
  | trunkStop p tag trunk => exact take fun u => recordPart_onTrunk recordPart_carryStop u trunk
  | trunkResume p tag trunk => exact take fun u => recordPart_onTrunk recordPart_carryResume u trunk
  | restart p tag => exact take fun u => rfl
  | override p tag index item value => exact take fun u => recordPart_carryOverride u p _ _ _
  | release p tag index => exact take fun u => recordPart_carryRelease u p _
  | cancel p tag index item => exact take fun u => recordPart_carryCancel u p _ _
  | admitCandidate p tag trunk address index twin qc => exact take fun u => recordPart_carryAdmit u _ _ _ _ _
  | reject p tag trunk address =>
    exact take fun u => by
      split
      · split_ifs <;> simp [answerOk]
      · rfl
  | forget p tag trunk address =>
    exact take fun u => by
      split
      · split_ifs <;> simp [answerOk]
      · rfl
  | longWindowExpiry p => exact execLongWindowExpiry_records p s
  | refreshWindowExpiry p => exact execRefreshWindowExpiry_records p s
  | limiterExpiry => exact execLimiterExpiry_records s
  | staleAgeExpiry l => exact execStaleAgeExpiry_records l s
  | holdLimitExpiry l => exact execHoldLimitExpiry_records l s
  | slotStart t => exact execSlotStart_records t s
  | requestSent t => exact execRequestSent_records t s
  | replyTimeout t => exact execReplyTimeout_records t s
  | replyClosed t => exact execReplyClosed_records t s
  | pairExchangeEnd t => exact execPairExchangeEnd_records t s
  | rollcallEnd t => exact execRollcallEnd_records t s
  | withheldExchangeEnd t => exact execWithheldExchangeEnd_records t s
  | txStuck t => exact execTxStuck_records t s
  | echoLost t => change Gives _ (execEchoLost t s); unfold execEchoLost; split <;> simp [Gives]
  | lineHeldSet t => change Gives _ (execLineHeldSet t s); unfold execLineHeldSet; split <;> simp [Gives]
  | lineHeldCleared t => change Gives _ (execLineHeldCleared t s); unfold execLineHeldCleared; split <;> simp [Gives]
  | resetAsserted => rfl
  | portByteReceived p b => change Gives _ (execPortByteReceived p b s); unfold execPortByteReceived; split <;> rfl
  | trunkByteReceived t b ok => exact execTrunkByteReceived_records t b ok s
  | _ => cases h

/-! ## The four commands that write them -/

namespace State.RecordsSound

section
variable {s : State}

/-- After a reset there is no record, and the network is in STARTING (R31, R61, R178, R179). -/
theorem of_reset (h : s.recordPart = (none, none, 0, .starting, false)) : s.RecordsSound := by
  obtain ⟨hcurrent, hprevious, hsequence, hmode, hmark⟩ : s.current = none ∧ s.previous = none ∧ s.sequence = 0
      ∧ s.mode = .starting ∧ s.clearMark = false := by simpa [State.recordPart] using h
  unfold State.RecordsSound
  simp [hcurrent, hprevious, hsequence, hmode, hmark]

theorem networkReset (s : State) : s.networkReset.RecordsSound := of_reset (by
  unfold State.networkReset
  dsimp only
  split <;> rfl)

/-- A sound record published outside STARTING, with the next number, keeps the laws (R61). -/
theorem publish {u : State} {r : Record} (h : s.RecordsSound) (current : u.current = s.current)
    (number : r.sequence = (s.sequence + 1) % 65536) (sound : r.Sound) (mode : u.mode ≠ .starting)
    (mark : u.clearMark = false) : (u.publish r).RecordsSound := by
  obtain ⟨hcurrent, -⟩ := h
  have previous : (u.publish r).previous = s.current := current
  have latest : (u.publish r).current = some r := rfl
  unfold State.RecordsSound
  rw [previous, latest]
  refine ⟨fun | _, rfl => ⟨sound, rfl⟩, fun q hq => (hcurrent q hq).1, ⟨nofun, fun h => absurd h mode⟩, nofun, ?_,
    fun h => absurd (mark.symm.trans h) nofun⟩
  rintro _ ⟨⟩ q hq
  rw [number, (hcurrent q hq).2]

theorem dispatchOnce (h : s.RecordsSound) : s.dispatchOnce.RecordsSound := by
  cases hm : s.modeAtExpiry with
  | starting => rw [State.dispatchOnce_of_starting hm]; exact h
  | run =>
    rw [State.dispatchOnce_of_run hm]
    exact h.publish rfl rfl (State.runRecord_sound _) nofun rfl
  | fallback =>
    obtain ⟨hcurrent, -, hsequence, hmode, hmark⟩ : s.reachFallback.current = s.current
        ∧ s.reachFallback.previous = s.previous ∧ s.reachFallback.sequence = s.sequence
        ∧ s.reachFallback.mode = .fallback ∧ s.reachFallback.clearMark = false := by
      simpa [State.recordPart] using (WorkFrame.reachFallback s).recordPart
    rw [State.dispatchOnce_of_fallback hm]
    refine h.publish hcurrent ?_ (State.fallbackRecord_sound _) (by rw [hmode]; nofun) hmark
    rw [← hsequence]; rfl

theorem execResponseComplete (h : s.RecordsSound) (p : PortId) : Gives State.RecordsSound (execResponseComplete p s) := by
  have next : ∀ u : State, (u.nextResponse p).recordPart = u.recordPart := fun u => by
    unfold State.nextResponse
    split <;> rfl
  unfold Machine.execResponseComplete
  split
  · exact h
  · split
    · refine of_part (next _) ?_
      split
      · exact networkReset _
      · exact h
    · exact h

theorem execFallbackClear (h : s.RecordsSound) (p : PortId) (tag : Nat) :
    Gives State.RecordsSound (execFallbackClear p tag s) := by
  refine State.take_keeps (P := State.RecordsSound) (fun _ _ _ _ hu => hu) (fun u _ hu => ?_) h
  split
  · dsimp only [answerOk]
    split
    · rename_i hm
      obtain ⟨hcurrent, hprevious, hthere, hnone, hnumber, -⟩ := hu
      exact ⟨hcurrent, hprevious, hthere, hnone, hnumber, fun _ => hm⟩
    · exact hu
  · exact hu

theorem execDispatchExpiry (h : s.RecordsSound) : Gives State.RecordsSound (execDispatchExpiry s) := by
  unfold Machine.execDispatchExpiry
  split
  · exact dispatchOnce (s := s.await s.dispatchDue) h
  · exact h

end

end State.RecordsSound

theorem exec_keeps_recordsSound (i : Instr) (s : State) (h : s.RecordsSound) : Gives State.RecordsSound (exec i s) := by
  cases hi : writesRecords i with
  | false => exact (exec_leavesRecords hi s).mono fun t k => .of_part k h
  | true =>
    cases i with
    | fullReset p0 p1 p2 p3 => exact State.RecordsSound.of_reset rfl
    | responseComplete p => exact h.execResponseComplete p
    | fallbackClear p tag => exact h.execFallbackClear p tag
    | dispatchExpiry => exact h.execDispatchExpiry
    | _ => cases hi

theorem recordPart_idle (s : State) : s.idle.recordPart = s.recordPart := by
  unfold State.idle
  split <;> [split; skip; skip] <;> rfl

end Sys2Proof.Machine

open Sys2Proof.Machine in
/-- Settles O59: four commands write what the laws speak of, and a record that a dispatch publishes is sound. -/
theorem stepKeepsRecordsSound : Obligations.StepKeepsRecordsSound := by
  intro s t hs h
  cases hp : s.pending with
  | nil =>
    rw [step_idle hp] at h
    cases h
    exact .of_part (recordPart_idle s) hs
  | cons c cs =>
    rw [step_front hp] at h
    exact (exec_keeps_recordsSound c { s with pending := cs } hs).of_eq h

end

/-! # Proofs: offers and the fallback-clear mark -/

section
namespace Sys2Proof.Machine

theorem State.received_hasLivePlant (s : State) (p : PortId) : (s.received p).HasLivePlant ↔ s.HasLivePlant := by
  simp only [State.HasLivePlant, State.received_port_profile, State.received_port_state]

theorem exec_fallbackClear {s : State} {p : PortId} (tag : Nat) (h : s.Free p) (hl : (s.port p).state = .live)
    (plant : s.HasLivePlant) :
    exec (.fallbackClear p tag) s =
      .next ((if s.mode = .fallback then { s.received p with clearMark := true } else s.received p).answers p
        (okResponse tag 0x17 [])) := by
  have live : (s.received p).plantLive = true := (State.plantLive_iff _).2 ((s.received_hasLivePlant p).2 plant)
  refine congrArg _ ((State.request_openLive s p tag 0x17 _ h hl).trans ?_)
  simp only [live, if_true]
  rfl

theorem exec_fallbackClear_notReady {s : State} {p : PortId} (tag : Nat) (h : s.Free p) (hl : (s.port p).state = .live)
    (plant : ¬s.HasLivePlant) :
    exec (.fallbackClear p tag) s = .next ((s.received p).answers p (codeResponse tag 0x17 .notReady)) := by
  have live : ¬(s.received p).plantLive = true := fun k => plant ((s.received_hasLivePlant p).1 ((State.plantLive_iff _).1 k))
  refine congrArg _ ((State.request_openLive s p tag 0x17 _ h hl).trans ?_)
  simp only [live]
  rfl

section
variable {s : State} {p : PortId} {mode f cmin cmax rank ramp discharge charge : Nat}

theorem exec_postOffer {o : Offer} (tag : Nat) (h : s.Plants p)
    (ho : offerOf mode f cmin cmax rank ramp discharge charge = some o) :
    exec (.postOffer p tag mode f cmin cmax rank ramp discharge charge) s =
      .next (((s.received p).setOffer p (some o)).answers p (okResponse tag 0x20 o.bytes)) := by
  refine congrArg _ ((State.request_plant s p tag 0x20 _ h).trans ?_)
  simp only [ho]
  rfl

theorem exec_postOffer_unknown (tag : Nat) (h : s.Plants p)
    (ho : offerOf mode f cmin cmax rank ramp discharge charge = none) :
    exec (.postOffer p tag mode f cmin cmax rank ramp discharge charge) s =
      .next ((s.received p).answers p (codeResponse tag 0x20 .unknown)) := by
  refine congrArg _ ((State.request_plant s p tag 0x20 _ h).trans ?_)
  simp only [ho]
  rfl

theorem exec_withdrawOffer {o : Offer} (tag : Nat) (h : s.Plants p) (ho : s.offer p = some o) :
    exec (.withdrawOffer p tag) s = .next (((s.received p).setOffer p none).answers p (okResponse tag 0x21 [])) := by
  refine congrArg _ ((State.request_plant s p tag 0x21 _ h).trans ?_)
  simp only [State.offer_received, ho]
  rfl

theorem exec_withdrawOffer_none (tag : Nat) (h : s.Plants p) (ho : s.offer p = none) :
    exec (.withdrawOffer p tag) s = .next ((s.received p).answers p (codeResponse tag 0x21 .none)) := by
  refine congrArg _ ((State.request_plant s p tag 0x21 _ h).trans ?_)
  simp only [State.offer_received, ho]
  rfl

/-- A posted offer has its least output clamped to its greatest, which is at most 60000 (R43). -/
theorem offerOf_low (cmin cmax : Nat) : min (min cmin 60000) (min cmax 60000) = min cmin (min cmax 60000) := by omega

theorem offerOf_fixed : offerOf 1 f cmin cmax rank ramp discharge charge =
    some (.fixed (min f 60000) (min cmin (min cmax 60000)) (min cmax 60000)) := by
  rw [← offerOf_low]; rfl

theorem offerOf_follow : offerOf 2 f cmin cmax rank ramp discharge charge =
    some (.follow (min cmin (min cmax 60000)) (min cmax 60000) (max 1 (min rank 8)) (min ramp 60000)) := by
  rw [← offerOf_low, ← clampNat_eq_max_min (by omega)]; rfl

theorem offerOf_store : offerOf 3 f cmin cmax rank ramp discharge charge =
    some (.store (max 1 (min rank 8)) (min discharge 60000) (min charge 60000)) := by
  rw [← clampNat_eq_max_min (by omega)]; rfl

theorem offerOf_unknown (h : 4 ≤ mode) : offerOf mode f cmin cmax rank ramp discharge charge = none := by
  match mode, h with
  | n + 4, _ => rfl

end

end Sys2Proof.Machine

open Sys2Proof.Machine in
/-- Settles O17, request by request. -/
theorem offersAndFallbackClear : Obligations.OffersAndFallbackClear := by
  refine ⟨fun p tag s h hl => ⟨fun plant => ?_, fun plant hm => ?_, fun plant hm => ?_⟩,
    fun p tag f cmin cmax rank ramp dis chg s h => ?_⟩
  · exact exec_fallbackClear_notReady tag h hl plant
  · rw [exec_fallbackClear tag h hl plant, if_pos hm]
  · rw [exec_fallbackClear tag h hl plant, if_neg hm]
  · dsimp only
    refine ⟨exec_postOffer tag h rfl, exec_postOffer tag h offerOf_fixed, exec_postOffer tag h offerOf_follow,
      exec_postOffer tag h offerOf_store, fun mode hmode => exec_postOffer_unknown tag h (offerOf_unknown hmode),
      fun ho => ?_, exec_withdrawOffer_none tag h⟩
    obtain ⟨o, ho⟩ := Option.isSome_iff_exists.1 ho
    exact exec_withdrawOffer tag h ho

end

/-! # Proofs: ports that leave LIVE and ports that fail -/

section
namespace Sys2Proof.Machine

/-! ## What a port owned is released (R45, R82, R170) -/

/-- A release of what a port owns leaves the claims of the other overrides. -/
theorem State.claim_releaseIfOwned {s : State} {p : PortId} {k : Station} (l : Station) (h : ¬s.Owns p k) :
    ((State.releaseIfOwned p s l).image k).override.map Override.claim = (s.image k).override.map Override.claim := by
  unfold State.releaseIfOwned
  split
  · rename_i ov ho
    split
    · rename_i hp
      have hk : k ≠ l := fun hk => h (by rw [hk, State.Owns, ho]; exact congrArg some hp)
      obtain ⟨u, q, q'⟩ := s.releaseOverride_spec l ov
      rw [q'.claim k, State.image_setImage, if_neg hk, q.claim k]
    · rfl
  · rfl

theorem State.owns_of_claim {s t : State} {k : Station}
    (h : (t.image k).override.map Override.claim = (s.image k).override.map Override.claim) (p : PortId) :
    t.Owns p k ↔ s.Owns p k := by
  have owner : ∀ o : Option Override, o.map Override.owner = (o.map Override.claim).map (·.1) := fun o => by
    rw [Option.map_map]; rfl
  rw [State.Owns, State.Owns, owner, owner, h]

theorem State.claim_releases {p : PortId} {k : Station} (ls : List Station) {s : State} (h : ¬s.Owns p k) :
    ((ls.foldl (State.releaseIfOwned p) s).image k).override.map Override.claim = (s.image k).override.map Override.claim := by
  induction ls generalizing s with
  | nil => rfl
  | cons l ls ih =>
    have one := s.claim_releaseIfOwned l h
    rw [List.foldl_cons, ih ((State.owns_of_claim one p).not.2 h), one]

/-- A port that leaves LIVE keeps neither offer nor overrides, and the overrides of the others stand. -/
theorem State.leaveLive_releasesAll {s u : State} (p : PortId) (h : ∀ l, (u.image l).override = (s.image l).override) :
    ReleasesAll p s (u.leaveLive p) := by
  refine ⟨?_, fun l ov ho hp => ?_, fun l ov ho hp => ?_⟩
  · rw [State.leaveLive, (WorkFrame.releaseOwned _ p).offer, State.offer_setOffer, if_pos rfl]
  · refine (u.setOffer p none).not_owns_releaseOwned p l ?_
    rw [State.Owns, show ((u.setOffer p none).releaseOwned p).image l = (u.leaveLive p).image l from rfl, ho]
    exact congrArg some hp
  · have held : ((u.setOffer p none).image l).override = some ov := (h l).trans ho
    have other : ¬(u.setOffer p none).Owns p l := by
      rw [State.Owns, held]
      exact fun k => hp (Option.some.inj k)
    have stands : ((u.leaveLive p).image l).override.map Override.claim = some ov.claim :=
      (State.claim_releases stations other).trans (congrArg _ held)
    obtain ⟨n, hn, claim⟩ := Option.map_eq_some_iff.1 stands
    obtain ⟨howner, hitem, hvalue⟩ : n.owner = ov.owner ∧ n.item = ov.item ∧ n.value = ov.value := by
      simpa [Override.claim] using claim
    refine ⟨n.delivery, hn.trans ?_⟩
    cases n
    cases ov
    simp_all

theorem ReleasesAll.raise {p : PortId} {s t : State} (h : ReleasesAll p s t) (q : PortId) (f : FlagSet) :
    ReleasesAll p s (t.raise q f) := h

/-! ## A failure (R167) -/

theorem hasFlag_or (a f : FlagSet) : hasFlag (a ||| f) f := by
  unfold hasFlag
  ext i hi
  simp
  tauto

theorem State.fail_eq (s : State) (p : PortId) :
    s.fail p = (if (s.port p).state = .live then (s.setPort p (failedRecord s (s.port p))).leaveLive p
      else s.setPort p (failedRecord s (s.port p))).raise p .watchdog := rfl

theorem State.setOffer_setPort (s : State) (p q : PortId) (o : Option Offer) (x : Port) :
    (s.setPort q x).setOffer p o = (s.setOffer p o).setPort q x := rfl

theorem State.fail_between (s : State) (p : PortId) : FailsBetween p s (s.fail p) := by
  rw [State.fail_eq]
  refine ⟨?_, ?_, fun live => ?_, ?_⟩
  · rw [State.leaveLive_eq]
    exact State.raise_eq _ p _
  · rw [State.raise_eq, State.port_setPort, if_pos (Eq.refl p)]
    exact hasFlag_or _ _
  · rw [if_pos live]
    refine ReleasesAll.raise (State.leaveLive_releasesAll p fun l => ?_) p _
    rfl
  · by_cases live : (s.port p).state = .live
    · rw [if_pos live, if_pos live, State.leaveLive, State.setOffer_setPort]
      exact (WorkFrame.releaseOwned _ p).trans (.raise _ p _)
    · rw [if_neg live, if_neg live]
      exact .raise _ p _

/-- The port after a failure is the failed record but for its outcomes, overrun mark and flags. -/
theorem FailsBetween.port {p : PortId} {s t : State} (h : FailsBetween p s t) :
    t.port p = { failedRecord s (s.port p) with
      outcomes := (t.port p).outcomes, overrun := (t.port p).overrun, flags := (t.port p).flags } := by
  obtain ⟨-, -, -, work⟩ := h
  exact (work.2.1 p).trans (by rw [State.port_setPort, if_pos rfl])

theorem FailsBetween.clock {p : PortId} {s t : State} (h : FailsBetween p s t) : t.clock = s.clock := by
  obtain ⟨-, -, -, work⟩ := h
  refine work.clock.trans ?_
  split <;> rfl

/-! ## HELLO -/

theorem exec_hello {s : State} {p : PortId} (tag : Nat) (h : s.Free p) :
    exec (.hello p tag) s = .next (((s.received p).helloTaken p).answers p
      (okResponse tag 0x01 (((s.received p).helloTaken p).helloBytes p))) :=
  congrArg _ (State.take_free s p tag 0x01 gateHello _ h)

theorem State.helloTaken_of_closed_opening_lapsed {s : State} {p : PortId}
    (h : (s.port p).state = .closed ∨ (s.port p).state = .opening ∨ (s.port p).state = .lapsed) :
    s.helloTaken p = s.setPort p { s.port p with state := .opening, window := some s.longWindow } := by
  rcases h with h | h | h <;> simp only [State.helloTaken, h] <;> rfl

theorem State.helloTaken_of_shut {s : State} {p : PortId} (h : (s.port p).state = .shut) :
    s.helloTaken p = s.setPort p { s.port p with state := .lapsed, window := some s.longWindow } := by
  simp only [State.helloTaken, h]; rfl

theorem State.helloTaken_of_live {s : State} {p : PortId} (h : (s.port p).state = .live) :
    s.helloTaken p = (s.setPort p { s.port p with state := .opening, window := some s.longWindow }).leaveLive p := by
  simp only [State.helloTaken, h]; rfl

/-! ## REFRESH -/

theorem exec_refresh {s : State} {p : PortId} (tag : Nat) (h : s.Opened p) :
    exec (.refresh p tag) s = .next (((s.received p).refreshTaken p).answers p
      (okResponse tag 0x02 (((s.received p).refreshTaken p).refreshBytes p))) :=
  congrArg _ (State.request_open s p tag 0x02 _ h)

theorem State.refreshTaken_of_opening_lapsed {s : State} {p : PortId}
    (h : (s.port p).state = .opening ∨ (s.port p).state = .lapsed) : s.refreshTaken p = s.enterLive p := by
  rcases h with h | h <;> simp only [State.refreshTaken, h]

theorem State.refreshTaken_of_live {s : State} {p : PortId} {w : Window} (h : (s.port p).state = .live)
    (hw : (s.port p).window = some w) :
    s.refreshTaken p = if w.inClosedHalf s.nowMs then s.fail p else s.enterLive p := by
  simp only [State.refreshTaken, h, hw]

theorem Window.inClosedHalf_iff {w : Window} (h : w.kind = .refresh) (now : Nat) :
    w.inClosedHalf now = true ↔ now < w.startMs + w.lengthMs / 2 := by
  simp [Window.inClosedHalf, h]

/-- A port that has just become LIVE has all of its window left. -/
theorem State.enterLive_bytes (s : State) (p : PortId) :
    (s.enterLive p).refreshBytes p = [2, byte (s.port p).failures, 1] ++ be4 ((s.port p).windowLen * 1000) := by
  have left : (s.enterLive p).windowLeft p = some ((s.port p).windowLen * 1000) := by
    simp [State.windowLeft, State.enterLive, State.refreshWindow]
  rw [State.refreshBytes, left]
  simp only [State.enterLive, State.modifyPort_eq, State.port_setPort, if_true]
  rfl

/-- A port that has just failed tells its LAPSED or SHUT state, and the LONG window that it then has, if any. -/
theorem FailsBetween.refreshBytes {p : PortId} {s t : State} (h : FailsBetween p s t) :
    t.refreshBytes p = if (s.port p).failures < 15 then [3, byte ((s.port p).failures + 1), 1] ++ be4 30000
      else [4, byte (s.port p).failures, 0] ++ be4 4294967295 := by
  have now : t.nowMs = s.nowMs := congrArg msOfTicks h.clock
  rw [State.refreshBytes, State.windowLeft, h.port, now]
  by_cases few : (s.port p).failures < 15
  · simp only [failedRecord, if_pos few, Option.map_some, Nat.add_sub_cancel_left]
    rfl
  · simp only [failedRecord, if_neg few, Option.map_none]
    rfl

/-! ## The expiry of a window -/

theorem exec_longWindowExpiry {s : State} {p : PortId} {w : Window} (on : s.powered = true) (hw : (s.port p).window = some w)
    (hs : (s.port p).state = .opening ∨ (s.port p).state = .lapsed) (hk : w.kind = .long) :
    exec (.longWindowExpiry p) s = .next ((s.passed (ticksOfMs (w.startMs + w.lengthMs))).fail p) := by
  have expiry : exec (.longWindowExpiry p) s = .next ((s.await (ticksOfMs (w.startMs + w.lengthMs))).fail p) := by
    rcases hs with hs | hs <;> simp only [exec, execLongWindowExpiry, hs, hw, on, hk, and_self, if_true]
  exact expiry

theorem exec_refreshWindowExpiry {s : State} {p : PortId} {w : Window} (on : s.powered = true)
    (hw : (s.port p).window = some w) (hs : (s.port p).state = .live) (hk : w.kind = .refresh) :
    exec (.refreshWindowExpiry p) s = .next ((s.passed (ticksOfMs (w.startMs + w.lengthMs))).fail p) := by
  have expiry : exec (.refreshWindowExpiry p) s = .next ((s.await (ticksOfMs (w.startMs + w.lengthMs))).fail p) := by
    simp only [exec, execRefreshWindowExpiry, hs, hw, on, hk, and_self, if_true]
  exact expiry

/-- The first tick at which so many milliseconds have passed. -/
theorem le_msOfTicks_iff (ms tick : Nat) : ms ≤ msOfTicks tick ↔ ticksOfMs ms ≤ tick := by
  unfold msOfTicks ticksOfMs
  omega

end Sys2Proof.Machine

open Sys2Proof.Machine in
/-- Settles O12, by the state of the port. -/
theorem helloOpensThePort : Obligations.HelloOpensThePort := by
  intro p tag s h x long payload
  rw [exec_hello tag h]
  refine ⟨fun hx => ?_, fun hx => ?_, fun hx => ?_⟩
  · rw [State.helloTaken_of_closed_opening_lapsed hx]
    simp only [State.helloBytes, State.port_setPort, if_true]
    rfl
  · rw [State.helloTaken_of_shut hx]
    simp only [State.helloBytes, State.port_setPort, if_true]
    rfl
  · rw [State.helloTaken_of_live hx]
    obtain ⟨u, hu⟩ : ∃ u, u = (s.received p).setPort p { x with state := .opening, window := some long } := ⟨_, rfl⟩
    have work : WorkFrame (u.setOffer p none) (u.leaveLive p) := .releaseOwned _ p
    have port := work.2.1 p
    have told : (u.leaveLive p).helloBytes p = payload 1 := by
      rw [State.helloBytes, port]
      simp only [State.port_setOffer, hu, State.port_setPort, if_true]
      rfl
    rw [← told]
    subst hu
    exact ⟨_, rfl, rfl, State.leaveLive_releasesAll p fun _ => rfl, work⟩

open Sys2Proof.Machine in
/-- Settles O13, by the state of the port and the half of its window. -/
theorem refreshIsJudgedByItsTime : Obligations.RefreshIsJudgedByItsTime := by
  intro p tag s h x restarted
  have restart : (s.received p).refreshTaken p = (s.received p).enterLive p → restarted := fun k => by
    unfold restarted
    rw [exec_refresh tag h, k, State.enterLive_bytes]
    rfl
  refine ⟨fun hx => restart (State.refreshTaken_of_opening_lapsed hx), fun w hx hw hk => ⟨fun late => ?_, fun soon => ?_⟩⟩
  · refine restart ((State.refreshTaken_of_live hx hw).trans (if_neg ?_))
    rw [Window.inClosedHalf_iff hk]
    exact Nat.not_lt.2 late
  · have failed : (s.received p).refreshTaken p = (s.received p).fail p :=
      (State.refreshTaken_of_live hx hw).trans (if_pos ((Window.inClosedHalf_iff hk _).2 soon))
    have between := (s.received p).fail_between p
    exact ⟨_, between, by rw [exec_refresh tag h, failed, between.refreshBytes]⟩

open Sys2Proof.Machine in
/-- Settles O14: an expiry is the failure of the port once the window's milliseconds have passed. -/
theorem windowExpiryIsAFailure : Obligations.WindowExpiryIsAFailure :=
  ⟨fun p _ _ on hw =>
    ⟨fun hs hk => ⟨_, exec_longWindowExpiry on hw hs hk, State.fail_between _ p⟩,
      fun hs hk => ⟨_, exec_refreshWindowExpiry on hw hs hk, State.fail_between _ p⟩⟩,
    le_msOfTicks_iff⟩

end

/-! # Proofs: the layouts of R183 and R184 -/

section
namespace Sys2Proof.Machine

/-! ## Bytes of marks -/

theorem markBits_nil : markBits [] = 0 := rfl

theorem markBits_cons (b : Bool) (bs : List Bool) : markBits (b :: bs) = b.toNat + 2 * markBits bs := by
  cases b <;> rfl

theorem markBits_three (a b c : Bool) : markBits [a, b, c] = a.toNat + 2 * b.toNat + 4 * c.toNat := by
  simp only [markBits_cons, markBits_nil]
  omega

theorem markBits_four (a b c d : Bool) :
    markBits [a, b, c, d] = a.toNat + 2 * b.toNat + 4 * c.toNat + 8 * d.toNat := by
  simp only [markBits_cons, markBits_nil]
  omega

theorem decide_trunk_toNat (t : TrunkId) : (decide (t = .b)).toNat = trunkCode t := by
  cases t <;> rfl

/-! ## A dispatch record -/

theorem ShareEntry.bytes_eq (e : ShareEntry) :
    e.bytes = [byte e.port.val, byte e.mode.code] ++ be4 (BitVec.ofInt 32 e.share).toNat ++ be4 e.flow
      ++ [byte e.ramped.toNat] := by
  rw [ShareEntry.bytes, markBits_cons, markBits_nil]
  rfl

theorem ShareEntry.bytes_length (e : ShareEntry) : e.bytes.length = 11 := rfl

/-- The fields of a record before its share entries. -/
def Record.head (r : Record) : List Byte :=
  be2 r.sequence ++ be4 r.time ++ [byte r.mode.code, byte r.status.code] ++ be4 r.demand ++ be4 r.adjusted ++ be4 r.flow
    ++ be2 r.setpoint ++ be4 (BitVec.ofInt 32 r.unmet).toNat
    ++ [byte (r.incomplete.toNat + 2 * r.dpBlind.toNat), byte r.live, byte r.stale, byte r.excluded, byte r.shares.length]

theorem Record.head_length (r : Record) : r.head.length = 31 := rfl

theorem Record.bytes_eq (r : Record) : r.bytes = r.head ++ r.shares.flatMap (·.bytes) := by
  rw [Record.bytes, markBits_cons, markBits_cons, markBits_nil]
  rfl

theorem length_shareBytes (es : List ShareEntry) : (es.flatMap (·.bytes)).length = 11 * es.length := by
  simp only [List.length_flatMap, ShareEntry.bytes_length, List.map_const', List.sum_replicate, smul_eq_mul, Nat.mul_comm]

/-- Share entries of one length stand at its multiples. -/
theorem take_drop_shareBytes (es : List ShareEntry) (k : Nat) (e : ShareEntry) (h : es[k]? = some e) :
    ((es.flatMap (·.bytes)).drop (11 * k)).take 11 = e.bytes := by
  induction es generalizing k with
  | nil => simp at h
  | cons d es ih =>
    rw [List.flatMap_cons]
    cases k with
    | zero =>
      obtain rfl : d = e := by simpa using h
      exact List.take_left' d.bytes_length
    | succ k =>
      rw [Nat.mul_succ, Nat.add_comm, ← List.drop_drop, List.drop_left' d.bytes_length]
      exact ih k (by simpa using h)

theorem Record.layout (r : Record) :
    r.bytes.length = 31 + 11 * r.shares.length
    ∧ ∀ k e, r.shares[k]? = some e → (r.bytes.drop (31 + 11 * k)).take 11 = e.bytes := by
  rw [r.bytes_eq]
  refine ⟨?_, fun k e h => ?_⟩
  · rw [List.length_append, r.head_length, length_shareBytes]
  · rw [← List.drop_drop, List.drop_left' r.head_length]
    exact take_drop_shareBytes _ _ _ h

/-! ## An image record -/

theorem imageRecord_eq (l : Station) (m : MapPart) (x : Image) :
    imageRecord l m x =
      [byte l.val, byte (m.enabled.toNat + 2 * m.twin.toNat + 4 * trunkCode m.trunk), byte m.address] ++ be2 m.customerTag
        ++ [byte x.state.code, byte x.generation, byte x.misses,
            byte (x.reading.isSome.toNat + 2 * (clampedMark x.reading).toNat + 4 * x.clash.toNat
              + 8 * x.override.isSome.toNat)]
        ++ be4 ((goodMs x.reading).getD 4294967295) ++ readingBytes x.reading
        ++ [byte ((x.status.map BitVec.toNat).getD 255)] := by
  rw [imageRecord, statusByte, optByte_eq, markBits_three, markBits_four, decide_trunk_toNat]

theorem length_readingBytes (r : Option Reading) : (readingBytes r).length = 10 := by
  cases r with
  | none => rw [readingBytes_none, List.length_replicate]
  | some r => rw [readingBytes_some, opt2_eq]; rfl

end Sys2Proof.Machine

open Sys2Proof.Machine in
/-- Settles O8: a record is its head of 31 bytes and the share entries of 11 bytes each, and an image record is a list of
fields of fixed lengths. -/
theorem recordLayouts : Obligations.RecordLayouts := by
  refine ⟨fun r => ?_, fun l m x => ?_, fun r => rfl, rfl, by decide +kernel⟩
  · obtain ⟨hlen, hshare⟩ := r.layout
    refine ⟨hlen, ?_, ?_, ?_, ?_, ?_, ?_, ?_, ?_, ?_, ?_, fun k e h => (hshare k e h).trans e.bytes_eq⟩ <;>
      (rw [r.bytes_eq]; rfl)
  · rw [imageRecord_eq]
    have hl := length_readingBytes x.reading
    refine ⟨?_, rfl, rfl, rfl, fun r h => ?_, fun h => ?_, ?_⟩
    · simp [hl, be2, be4]
    · rw [h, readingBytes_some, opt2_eq]
      exact ⟨rfl, rfl⟩
    · rw [h, readingBytes_none]
      exact ⟨by simp [be2, clampedMark], rfl⟩
    · rcases hr : x.reading with _ | r
      · rw [readingBytes_none]
        rfl
      · rw [readingBytes_some, opt2_eq]
        rfl

end

/-! # Proofs: the release of the limiter's caps on entry into FALLBACK -/

section
namespace Sys2Proof.Machine

/-! ## DropsReach reads the queues in the ports' entries alone -/

theorem DropsReach.of_ports_eq {s t : State} (ports : ∀ p, t.port p = s.port p) : DropsReach [] (fun _ => []) 0 s t := by
  refine dropsReach_iff.2 fun p => ⟨0, by simp [droppedOutcomes, Port.raise, ports], .inr ⟨?_, rfl⟩⟩
  rintro ⟨-, told | ⟨e, he, -⟩, -⟩
  · exact told rfl
  · cases he

/-- The entry is a port's. -/
def CommandEntry.ofPort (e : CommandEntry) : Bool :=
  match e.originator with
  | .port _ => true
  | .limiter | .module => false

theorem CommandEntry.ofPort_of_port {e : CommandEntry} {p : PortId} (h : e.originator = .port p) : e.ofPort = true := by
  rw [CommandEntry.ofPort, h]

/-- The state with the ports' entries alone in its queues. -/
def State.portWork (s : State) : State :=
  (s.setQueue .a ((s.queue .a).filter (·.ofPort))).setQueue .b ((s.queue .b).filter (·.ofPort))

@[simp] theorem State.queue_portWork (s : State) (r : TrunkId) : s.portWork.queue r = (s.queue r).filter (·.ofPort) := by
  cases r <;> simp [State.portWork]

@[simp] theorem State.port_portWork (s : State) (p : PortId) : s.portWork.port p = s.port p := by
  simp [State.portWork]

theorem State.clock_portWork (s : State) : s.portWork.clock = s.clock := rfl

theorem dropsReach_portWork {g : List CommandEntry} {told : PortId → List OutcomeEntry} {f : FlagSet} {s t : State} :
    DropsReach g told f s t.portWork ↔ DropsReach g told f s t := by
  have none_left : ∀ p, (∀ r, ∀ e ∈ t.portWork.queue r, e.originator ≠ .port p)
      ↔ ∀ r, ∀ e ∈ t.queue r, e.originator ≠ .port p := fun p => by
    simp only [State.queue_portWork, List.mem_filter]
    exact ⟨fun h r e he ho => h r e ⟨he, CommandEntry.ofPort_of_port ho⟩ ho, fun h r e he => h r e he.1⟩
  simp only [DropsReach, none_left, State.port_portWork]

/-- Droppings one after the other, where the second adds no port's entry to the queues and takes from the ports' entries those it
names. -/
theorem DropsReach.trans_ports {g h : List CommandEntry} {told : PortId → List OutcomeEntry} {a b : FlagSet} {s t u : State}
    (st : DropsReach g told a s t) (tu : DropsReach h (fun _ => []) b t u) (clock : t.clock = s.clock)
    (sub : ∀ r, ∀ e ∈ u.queue r, e.ofPort = true → e ∈ t.queue r)
    (left : ∀ r, ∀ e ∈ t.queue r, e.ofPort = true → e ∈ u.queue r ∨ e ∈ h) :
    DropsReach (g ++ h) told (a ||| b) s u := by
  have tu' : DropsReach h (fun _ => []) b t.portWork u.portWork :=
    (dropsReach_portWork.2 tu).of_ports t.port_portWork t.clock_portWork
  refine dropsReach_portWork.1 ((dropsReach_portWork.2 st).trans tu' clock (fun r e he => ?_) fun r e he => ?_)
  · simp only [State.queue_portWork, List.mem_filter] at he ⊢
    exact ⟨sub r e he.1 he.2, he.2⟩
  · simp only [State.queue_portWork, List.mem_filter] at he ⊢
    exact (left r e he.1 he.2).imp (⟨·, he.2⟩) id

theorem hasFlag_or_left {a b f : FlagSet} (h : hasFlag a f) : hasFlag (a ||| b) f := by
  unfold hasFlag at *
  ext i hi
  have bit := congrArg (·[i]) h
  simp at bit ⊢
  tauto

/-- Outcomes never clear a flag. -/
theorem Port.hasFlag_addOutcomes {f : FlagSet} (os : List OutcomeEntry) {x : Port} (h : hasFlag x.flags f) :
    hasFlag (os.foldl Port.addOutcome x).flags f := by
  induction os generalizing x with
  | nil => exact h
  | cons o os ih =>
    refine ih ?_
    by_cases each : x.notify = .each
    · rw [Port.addOutcome, if_pos each]
      exact hasFlag_or_left h
    · rw [Port.addOutcome, if_neg each]
      exact h

theorem DropsReach.keepsFlag {g : List CommandEntry} {told : PortId → List OutcomeEntry} {a f : FlagSet} {s t : State}
    (h : DropsReach g told a s t) {p : PortId} (flag : Machine.hasFlag (s.port p).flags f) :
    Machine.hasFlag (t.port p).flags f := by
  obtain ⟨k, hk, -⟩ := dropsReach_iff.1 h p
  rw [hk]
  exact hasFlag_or_left (Port.hasFlag_addOutcomes _ flag)

/-- A flag raised on every port before the droppings stands as if it were raised after them. -/
theorem DropsReach.raised_before {g : List CommandEntry} {f : FlagSet} {s w : State}
    (h : DropsReach g (fun _ => []) 0 (s.raiseAll f) w) :
    ∃ v, DropsReach g (fun _ => []) 0 s v ∧ (∀ r, v.queue r = w.queue r) ∧ ∀ p, w.port p = (v.port p).raise f := by
  have raised : ∀ p, ((s.raiseAll f).port p) = (s.port p).raise f := fun p => State.port_eachPort _ _ p
  choose k hk drained using dropsReach_iff.1 h
  let v : State := { w with
    ports := tabulate 4 fun p => (([] ++ droppedOutcomes g p s.clock).foldl Port.addOutcome (s.port p)).raise (k p) }
  have port : ∀ p, v.port p = (([] ++ droppedOutcomes g p s.clock).foldl Port.addOutcome (s.port p)).raise (k p) :=
    fun p => tabulate_get _ _ p
  have same : ∀ p, Drained g (fun _ => []) (s.raiseAll f) w p ↔ Drained g (fun _ => []) s v p := fun p => by
    rw [Drained, raised]
    rfl
  refine ⟨v, dropsReach_iff.2 fun p => ⟨k p, port p, ?_⟩, fun r => by cases r <;> rfl, fun p => ?_⟩
  · rw [← same p]
    exact drained p
  · rw [hk, port, raised, Port.addOutcomes_raise, Port.raise_raise, Port.raise_raise, BitVec.or_comm]
    rfl

/-! ## An entry that is delivered DROPPED -/

theorem State.deliver_dropped_eq (s : State) (t : TrunkId) (e : CommandEntry) (q : List CommandEntry) :
    (s.setQueue t q).deliver e .dropped = (s.setQueue t (e :: q)).dropEntry t e := by
  have erased : ((s.setQueue t (e :: q)).queue t).erase e = q := by simp
  rw [State.dropEntry, erased]
  cases t <;> rfl

theorem State.deliver_dropped_reaches (s : State) (t : TrunkId) (e : CommandEntry) (q : List CommandEntry) :
    DropsReach [e] (fun _ => []) 0 s ((s.setQueue t q).deliver e .dropped) := by
  rw [State.deliver_dropped_eq]
  exact ((s.setQueue t (e :: q)).dropEntry_reaches t e).of_ports (fun p => by simp) (by simp)

theorem State.image_deliver_dropped (s : State) (t : TrunkId) (e : CommandEntry) (q : List CommandEntry) (k : Station) :
    ((s.setQueue t q).deliver e .dropped).image k =
      { s.image k with override := (s.image k).override.map (refusedBy [e] k) } := by
  rw [State.deliver_dropped_eq, State.image_dropEntry]
  simp

theorem State.limit_deliver_dropped (s : State) (t : TrunkId) (e : CommandEntry) (q : List CommandEntry) {k : Station}
    (hk : e.index ≠ k) : ((s.setQueue t q).deliver e .dropped).limit k = s.limit k := by
  rw [State.deliver_dropped_eq, State.limit_dropEntry, clearedBy, if_neg]
  · simp
  · rintro ⟨d, hd, rfl, -⟩
    exact hk (by rw [List.mem_singleton.1 hd])

/-! ## One queue that is offered the release of a cap -/

theorem waitingKey_iff {l : Station} {item : Item} {e : CommandEntry} :
    waitingKey l item e = true ↔ e.waiting = true ∧ e.index = l ∧ e.item = item := by
  simp only [waitingKey, Bool.and_eq_true, beq_iff_eq, and_assoc]

theorem waitingKey_of_ne {k l : Station} {item : Item} {e : CommandEntry} (hk : k ≠ l) (h : e.index = l) :
    waitingKey k item e = false :=
  Bool.eq_false_iff.2 fun w => hk ((waitingKey_iff.1 w).2.1.symm.trans h)

theorem forall_waitingKey_iff_of_filter_eq {l : Station} {item : Item} {q q' : List CommandEntry}
    (h : q'.filter (waitingKey l item) = q.filter (waitingKey l item)) :
    (∀ e ∈ q', waitingKey l item e = false) ↔ ∀ e ∈ q, waitingKey l item e = false := by
  have empty : ∀ xs : List CommandEntry, (∀ e ∈ xs, waitingKey l item e = false) ↔ xs.filter (waitingKey l item) = [] :=
    fun xs => by simp only [List.filter_eq_nil_iff, Bool.not_eq_true]
  rw [empty, empty, h]

/-- The waiting CAPs of a station that are not the module's. -/
def capsWaiting (q : List CommandEntry) (l : Station) : List CommandEntry :=
  q.filter fun e => waitingKey l .cap e && e.originator != .module

theorem capsWaiting_eq (q : List CommandEntry) (l : Station) :
    capsWaiting q l = (q.filter (waitingKey l .cap)).filter fun e => e.originator != .module := by
  rw [capsWaiting, List.filter_filter]
  exact List.filter_congr fun e _ => Bool.and_comm _ _

theorem capsWaiting_of_none {q : List CommandEntry} {l : Station} (h : ∀ d ∈ q, waitingKey l .cap d = false) :
    capsWaiting q l = [] := by
  refine List.filter_eq_nil_iff.2 fun d hd => ?_
  simp [h d hd]

/-- The release of a cap. -/
def capRelease (l : Station) : CommandEntry := newEntry l .cap none .module

theorem capRelease_not_ofPort (l : Station) : (capRelease l).ofPort = false := rfl

/-- What the offer of a cap's release leaves of a queue, with the entries that it displaces and reports. -/
structure CapOffered (l : Station) (q q' gone : List CommandEntry) : Prop where
  longer : q.length ≤ q'.length
  other : ∀ k, k ≠ l → q'.filter (waitingKey k .cap) = q.filter (waitingKey k .cap)
  new : ∀ e ∈ q', e ∈ q ∨ e = capRelease l
  kept : ∀ e ∈ q, e ∈ q' ∨ (waitingKey l .cap e = true ∧ (e ∈ gone ∨ e.originator = .module))
  offered : capRelease l ∈ q' ∨ (16 ≤ q'.length ∧ ∀ e ∈ q, waitingKey l .cap e = false)
  gone_eq : (q.filter (waitingKey l .cap)).length ≤ 1 → gone = capsWaiting q l

theorem filter_set_of_neg {q : List CommandEntry} {i : Nat} {old e : CommandEntry} {test : CommandEntry → Bool}
    (hi : q[i]? = some old) (hold : test old = false) (he : test e = false) : (q.set i e).filter test = q.filter test := by
  induction q generalizing i with
  | nil => rfl
  | cons d q ih =>
    cases i with
    | zero =>
      obtain rfl : d = old := by simpa using hi
      simp [hold, he]
    | succ i =>
      rw [List.set_cons_succ, List.filter_cons, List.filter_cons, ih (by simpa using hi)]

theorem mem_set_or_eq_old {q : List CommandEntry} {i : Nat} {old d : CommandEntry} (e : CommandEntry) (hi : q[i]? = some old)
    (hd : d ∈ q) : d ∈ q.set i e ∨ d = old := by
  obtain ⟨j, hj⟩ := List.mem_iff_getElem?.1 hd
  by_cases hij : i = j
  · subst hij
    exact .inr (Option.some.inj (hj.symm.trans hi))
  · exact .inl (List.mem_iff_getElem?.2 ⟨j, by rw [List.getElem?_set_ne hij, hj]⟩)

theorem filter_eq_singleton {q : List CommandEntry} {old : CommandEntry} {test : CommandEntry → Bool}
    (few : (q.filter test).length ≤ 1) (mem : old ∈ q) (hold : test old = true) : q.filter test = [old] := by
  have held : old ∈ q.filter test := List.mem_filter.2 ⟨mem, hold⟩
  obtain ⟨d, hd⟩ := List.length_eq_one_iff.1 (Nat.le_antisymm few (List.length_pos_of_mem held))
  rw [hd, List.mem_singleton] at held
  rw [hd, held]

theorem CapOffered.set {l : Station} {q : List CommandEntry} {i : Nat} {old : CommandEntry} (hi : q[i]? = some old)
    (hw : waitingKey l .cap old = true) :
    CapOffered l q (q.set i (capRelease l)) (if old.originator = .module then [] else [old]) where
  longer := List.length_set.ge
  other k hk := filter_set_of_neg hi (waitingKey_of_ne hk (waitingKey_iff.1 hw).2.1) (waitingKey_of_ne hk rfl)
  new e he := List.mem_or_eq_of_mem_set he
  kept e he := (mem_set_or_eq_old _ hi he).imp id fun h => by
    subst h
    refine ⟨hw, ?_⟩
    by_cases ho : e.originator = .module
    · exact .inr ho
    · exact .inl (by simp [ho])
  offered := .inl (List.mem_set (List.getElem?_eq_some_iff.1 hi).1 _)
  gone_eq few := by
    rw [capsWaiting_eq, filter_eq_singleton few (List.mem_of_getElem? hi) hw]
    by_cases ho : old.originator = .module <;> simp [ho]

theorem CapOffered.append {l : Station} {q : List CommandEntry} (h : ∀ d ∈ q, waitingKey l .cap d = false) :
    CapOffered l q (q ++ [capRelease l]) [] where
  longer := by simp
  other k hk := by
    have skip : waitingKey k .cap (capRelease l) = false := waitingKey_of_ne hk rfl
    rw [List.filter_append, List.filter_singleton, skip]
    exact List.append_nil _
  new e he := (List.mem_append.1 he).imp id List.mem_singleton.1
  kept e he := .inl (List.mem_append_left _ he)
  offered := .inl (by simp)
  gone_eq _ := (capsWaiting_of_none h).symm

theorem CapOffered.full {l : Station} {q : List CommandEntry} (h : ∀ d ∈ q, waitingKey l .cap d = false)
    (hl : 16 ≤ q.length) : CapOffered l q q [] where
  longer := Nat.le_refl _
  other _ _ := rfl
  new _ he := .inl he
  kept _ he := .inl he
  offered := .inr ⟨hl, h⟩
  gone_eq _ := (capsWaiting_of_none h).symm

/-! ## One station's cap released -/

/-- The limiter claims a cap at the station or has one outstanding. -/
def State.capped (s : State) (l : Station) : Bool :=
  match (s.limit l).state with
  | .pending _ | .active _ => true
  | .none | .blocked _ => false

theorem State.releaseCap_of_capped {s : State} {l : Station} (h : s.capped l = true) :
    s.releaseCap l = s.offerIfRoom (s.map l).trunk l .cap none .module := by
  unfold State.capped at h
  unfold State.releaseCap
  cases hs : (s.limit l).state with
  | pending c | active c => rfl
  | none | blocked c => rw [hs] at h; cases h

theorem State.releaseCap_of_not_capped {s : State} {l : Station} (h : s.capped l = false) : s.releaseCap l = s := by
  unfold State.capped at h
  unfold State.releaseCap
  cases hs : (s.limit l).state with
  | none | blocked c => rfl
  | pending c | active c => rw [hs] at h; cases h

theorem refusedBy_nil (l : Station) : refusedBy [] l = id :=
  funext fun ov => by simp [refusedBy]

/-- What a station's release leaves, with the entries `gone` that it displaces and reports. -/
structure CapReleased (s t : State) (l : Station) (gone : List CommandEntry) : Prop where
  frame : WorkFrame s t
  limit : ∀ k, k ≠ l → t.limit k = s.limit k
  queue : CapOffered l (s.queue (s.map l).trunk) (t.queue (s.map l).trunk) gone
  elsewhere : ∀ r, r ≠ (s.map l).trunk → t.queue r = s.queue r
  image : ∀ k, t.image k = { s.image k with override := (s.image k).override.map (refusedBy gone k) }
  reaches : DropsReach gone (fun _ => []) 0 s t

theorem State.releaseCap_released {s : State} {l : Station} (h : s.capped l = true) :
    ∃ gone, CapReleased s (s.releaseCap l) l gone := by
  have frame := WorkFrame.releaseCap s l
  have elsewhere := fun r hr => s.queue_offerIfRoom (s.map l).trunk r l .cap none .module hr
  rw [← State.releaseCap_of_capped h] at elsewhere
  have untouched : ∀ q, (s.setQueue (s.map l).trunk q).image = s.image := fun q => funext fun k => by simp
  rcases s.offerCommand_cases (s.map l).trunk l .cap none .module with ⟨i, old, hi, hw, ht⟩ | ⟨hn, ⟨-, ht⟩ | ⟨hl, ht⟩⟩
  · have ht : s.releaseCap l = (s.setQueue (s.map l).trunk ((s.queue (s.map l).trunk).set i (capRelease l))).displaced old .module := by
      rw [State.releaseCap_of_capped h, State.offerIfRoom, ht]
      rfl
    refine ⟨if old.originator = .module then [] else [old], frame, fun k hk => ?_, ?_, elsewhere, fun k => ?_, ?_⟩
    · rw [ht, State.displaced]
      split
      · simp
      · exact s.limit_deliver_dropped _ _ _ fun he => hk (he.symm.trans (waitingKey_iff.1 hw).2.1)
    · have hq : (s.releaseCap l).queue (s.map l).trunk = (s.queue (s.map l).trunk).set i (capRelease l) := by
        rw [ht, State.queue_displaced]; simp
      rw [hq]
      exact .set hi hw
    · rw [ht, State.displaced]
      split
      · rw [untouched, refusedBy_nil]; simp
      · exact s.image_deliver_dropped _ _ _ k
    · rw [ht, State.displaced]
      split
      · exact .of_ports_eq fun p => by simp
      · exact s.deliver_dropped_reaches _ _ _
  · have ht : s.releaseCap l = s.setQueue (s.map l).trunk (s.queue (s.map l).trunk ++ [capRelease l]) := by
      rw [State.releaseCap_of_capped h, State.offerIfRoom, ht]
      rfl
    have hq : (s.releaseCap l).queue (s.map l).trunk = s.queue (s.map l).trunk ++ [capRelease l] := by rw [ht]; simp
    refine ⟨[], frame, fun k _ => by rw [ht]; simp, ?_, elsewhere, fun k => ?_, .of_ports_eq fun p => by rw [ht]; simp⟩
    · rw [hq]
      exact .append hn
    · rw [ht, untouched, refusedBy_nil]; simp
  · have ht : s.releaseCap l = s := by
      rw [State.releaseCap_of_capped h, State.offerIfRoom, ht]
      rfl
    refine ⟨[], frame, fun k _ => by rw [ht], ?_, elsewhere, fun k => ?_, .of_ports_eq fun p => by rw [ht]⟩
    · rw [ht]
      exact .full hn hl
    · rw [ht, refusedBy_nil]; simp

/-! ## The release over a list of stations -/

/-- The waiting CAPs, other than the module's, of the stations of the list that the limiter has capped, in order. -/
def State.capsAmong (s : State) (ls : List Station) : List CommandEntry :=
  (ls.filter s.capped).flatMap fun l => capsWaiting (s.queue (s.map l).trunk) l

/-- The station is one of the list that the limiter has capped, and its trunk is the one. -/
def State.releasesOn (s : State) (ls : List Station) (r : TrunkId) (l : Station) : Prop :=
  l ∈ ls ∧ s.capped l = true ∧ (s.map l).trunk = r

/-- What the releases of the stations of a list leave, one after the other, with the entries `gone` that they displace and
report. -/
structure ReleasesAmong (s t : State) (ls : List Station) (gone : List CommandEntry) : Prop where
  frame : WorkFrame s t
  longer : ∀ r, (s.queue r).length ≤ (t.queue r).length
  other : ∀ k, k ∉ ls → ∀ r, (t.queue r).filter (waitingKey k .cap) = (s.queue r).filter (waitingKey k .cap)
  new : ∀ r, ∀ e ∈ t.queue r, e ∈ s.queue r ∨ ∃ l, s.releasesOn ls r l ∧ e = capRelease l
  kept : ∀ r, ∀ e ∈ s.queue r,
    e ∈ t.queue r ∨ ∃ l, s.releasesOn ls r l ∧ waitingKey l .cap e = true ∧ (e ∈ gone ∨ e.originator = .module)
  offered : ∀ r l, s.releasesOn ls r l →
    capRelease l ∈ t.queue r ∨ (16 ≤ (t.queue r).length ∧ ∀ e ∈ s.queue r, waitingKey l .cap e = false)
  image : ∀ k, t.image k = { s.image k with override := (s.image k).override.map (refusedBy gone k) }
  reaches : DropsReach gone (fun _ => []) 0 s t
  gone_eq : (∀ l r, s.releasesOn ls r l → ((s.queue r).filter (waitingKey l .cap)).length ≤ 1) → gone = s.capsAmong ls

theorem ReleasesAmong.nil (s : State) : ReleasesAmong s s [] [] where
  frame := .refl s
  longer _ := Nat.le_refl _
  other _ _ _ := rfl
  new _ _ he := .inl he
  kept _ _ he := .inl he
  offered _ _ h := absurd h.1 List.not_mem_nil
  image k := by rw [refusedBy_nil]; simp
  reaches := .nil s
  gone_eq _ := rfl

theorem State.releasesOn_cons_not_capped {s : State} {l : Station} (h : s.capped l = false) (ls : List Station) (r : TrunkId)
    (k : Station) : s.releasesOn (l :: ls) r k ↔ s.releasesOn ls r k := by
  have other : s.capped k = true → k ≠ l := fun hk e => by rw [e, h] at hk; cases hk
  simp only [State.releasesOn, List.mem_cons]
  tauto

theorem ReleasesAmong.cons_not_capped {s t : State} {l : Station} {ls : List Station} {gone : List CommandEntry}
    (hl : s.capped l = false) (h : ReleasesAmong s t ls gone) : ReleasesAmong s t (l :: ls) gone := by
  have on := State.releasesOn_cons_not_capped hl ls
  have among : s.capsAmong (l :: ls) = s.capsAmong ls := by simp [State.capsAmong, hl]
  refine ⟨h.frame, h.longer, fun k hk => h.other k fun m => hk (List.mem_cons_of_mem _ m), ?_, ?_, ?_, h.image, h.reaches, ?_⟩
  · simpa only [on] using h.new
  · simpa only [on] using h.kept
  · simpa only [on] using h.offered
  · simpa only [on, among] using h.gone_eq

section
variable {s u : State} {l : Station} {gone : List CommandEntry}

theorem CapReleased.capped (h : CapReleased s u l gone) {k : Station} (hk : k ≠ l) : u.capped k = s.capped k := by
  rw [State.capped, State.capped, h.limit k hk]

theorem CapReleased.releasesOn (h : CapReleased s u l gone) {ls : List Station} (hl : l ∉ ls) (r : TrunkId) (k : Station) :
    u.releasesOn ls r k ↔ s.releasesOn ls r k := by
  refine and_congr_right fun hk => ?_
  rw [h.capped fun e => hl (e ▸ hk), h.frame.map]

theorem CapReleased.longer (h : CapReleased s u l gone) (r : TrunkId) : (s.queue r).length ≤ (u.queue r).length := by
  by_cases hr : r = (s.map l).trunk
  · exact hr ▸ h.queue.longer
  · rw [h.elsewhere r hr]

theorem CapReleased.other (h : CapReleased s u l gone) {k : Station} (hk : k ≠ l) (r : TrunkId) :
    (u.queue r).filter (waitingKey k .cap) = (s.queue r).filter (waitingKey k .cap) := by
  by_cases hr : r = (s.map l).trunk
  · exact hr ▸ h.queue.other k hk
  · rw [h.elsewhere r hr]

theorem CapReleased.new (h : CapReleased s u l gone) {r : TrunkId} {e : CommandEntry} (he : e ∈ u.queue r) :
    e ∈ s.queue r ∨ ((s.map l).trunk = r ∧ e = capRelease l) := by
  by_cases hr : r = (s.map l).trunk
  · subst hr
    exact (h.queue.new e he).imp id (⟨rfl, ·⟩)
  · exact .inl (h.elsewhere r hr ▸ he)

theorem CapReleased.kept (h : CapReleased s u l gone) {r : TrunkId} {e : CommandEntry} (he : e ∈ s.queue r) :
    e ∈ u.queue r ∨ ((s.map l).trunk = r ∧ waitingKey l .cap e = true ∧ (e ∈ gone ∨ e.originator = .module)) := by
  by_cases hr : r = (s.map l).trunk
  · subst hr
    exact (h.queue.kept e he).imp id (⟨rfl, ·⟩)
  · exact .inl (h.elsewhere r hr ▸ he)

theorem CapReleased.capsAmong (h : CapReleased s u l gone) {ls : List Station} (hl : l ∉ ls) :
    u.capsAmong ls = s.capsAmong ls := by
  have ne : ∀ k ∈ ls, k ≠ l := fun k hk e => hl (e ▸ hk)
  have same : ls.filter u.capped = ls.filter s.capped := List.filter_congr fun k hk => h.capped (ne k hk)
  rw [State.capsAmong, same, State.capsAmong]
  refine List.flatMap_congr fun k hk => ?_
  rw [capsWaiting_eq, capsWaiting_eq, h.frame.map, h.other (ne k (List.mem_filter.1 hk).1)]

end

theorem ofPort_of_eq_capRelease {e : CommandEntry} {l : Station} (h : e = capRelease l) : e.ofPort ≠ true := by
  rw [h, capRelease_not_ofPort]
  exact Bool.false_ne_true

theorem ofPort_of_module {e : CommandEntry} (h : e.originator = .module) : e.ofPort ≠ true := by
  rw [CommandEntry.ofPort, h]
  exact Bool.false_ne_true

/-- An entry whose key is another station's stays through the releases. -/
theorem ReleasesAmong.keeps {s t : State} {ls : List Station} {gone : List CommandEntry} (h : ReleasesAmong s t ls gone)
    {r : TrunkId} {e : CommandEntry} (he : e ∈ s.queue r) (hl : e.index ∉ ls) : e ∈ t.queue r := by
  rcases h.kept r e he with stays | ⟨k, on, key, -⟩
  · exact stays
  · exact absurd ((waitingKey_iff.1 key).2.1 ▸ on.1) hl

theorem ReleasesAmong.reaches_after {s u t : State} {l : Station} {ls : List Station} {g gone : List CommandEntry}
    (rest : ReleasesAmong u t ls gone) (first : CapReleased s u l g) : DropsReach (g ++ gone) (fun _ => []) 0 s t := by
  refine first.reaches.trans_ports rest.reaches first.frame.clock (fun r e he port => ?_) fun r e he port => ?_
  · rcases rest.new r e he with old | ⟨k, -, eq⟩
    · exact old
    · exact absurd port (ofPort_of_eq_capRelease eq)
  · exact (rest.kept r e he).imp id fun ⟨_, _, _, h⟩ => h.resolve_right fun own => ofPort_of_module own port

theorem ReleasesAmong.cons_capped {s u t : State} {l : Station} {ls : List Station} {g gone : List CommandEntry} (hl : l ∉ ls)
    (hc : s.capped l = true) (first : CapReleased s u l g) (rest : ReleasesAmong u t ls gone) :
    ReleasesAmong s t (l :: ls) (g ++ gone) := by
  have on := first.releasesOn hl
  have head : s.releasesOn (l :: ls) (s.map l).trunk l := ⟨List.mem_cons_self, hc, rfl⟩
  have tail : ∀ {r k}, u.releasesOn ls r k → s.releasesOn (l :: ls) r k := fun {r k} h => by
    obtain ⟨mem, capped, trunk⟩ := (on r k).1 h
    exact ⟨List.mem_cons_of_mem _ mem, capped, trunk⟩
  have split : ∀ {r k}, s.releasesOn (l :: ls) r k → k = l ∨ (k ≠ l ∧ u.releasesOn ls r k) := fun {r k} h => by
    obtain ⟨mem, capped, trunk⟩ := h
    by_cases hk : k = l
    · exact .inl hk
    · exact .inr ⟨hk, (on _ _).2 ⟨(List.mem_cons.1 mem).resolve_left hk, capped, trunk⟩⟩
  refine ⟨first.frame.trans rest.frame, fun r => (first.longer r).trans (rest.longer r), fun k hk r => ?_, fun r e he => ?_,
    fun r e he => ?_, fun r k hk => ?_, fun k => ?_, ?_, fun few => ?_⟩
  · rw [rest.other k (List.not_mem_of_not_mem_cons hk), first.other (List.ne_of_not_mem_cons hk)]
  · rcases rest.new r e he with old | ⟨k, hk, rfl⟩
    · exact (first.new old).imp id fun ⟨hr, eq⟩ => ⟨l, hr ▸ head, eq⟩
    · exact .inr ⟨k, tail hk, rfl⟩
  · rcases first.kept he with stays | ⟨hr, key, gone⟩
    · refine (rest.kept r e stays).imp id fun ⟨k, hk, key, gone⟩ => ⟨k, tail hk, key, gone.imp (List.mem_append_right _) id⟩
    · exact .inr ⟨l, hr ▸ head, key, gone.imp (List.mem_append_left _) id⟩
  · rcases split hk with rfl | ⟨hne, hk⟩
    · obtain ⟨-, -, rfl⟩ := hk
      rcases first.queue.offered with taken | ⟨full, unheld⟩
      · exact .inl (rest.keeps taken hl)
      · exact .inr ⟨full.trans (rest.longer _), unheld⟩
    · refine (rest.offered r k hk).imp id fun ⟨full, unheld⟩ => ⟨full, ?_⟩
      exact (forall_waitingKey_iff_of_filter_eq (first.other hne r)).1 unheld
  · rw [rest.image, first.image]
    simp only [Option.map_map]
    rw [show refusedBy gone k ∘ refusedBy g k = refusedBy (g ++ gone) k from
      funext fun ov => (refusedBy_append g gone k ov).symm]
  · exact rest.reaches_after first
  · have own : g = capsWaiting (s.queue (s.map l).trunk) l := first.queue.gone_eq (few l _ head)
    have fewAfter : ∀ k r, u.releasesOn ls r k → ((u.queue r).filter (waitingKey k .cap)).length ≤ 1 := fun k r hk => by
      rw [first.other fun e => hl (e ▸ hk.1)]
      exact few k r (tail hk)
    rw [own, rest.gone_eq fewAfter, first.capsAmong hl]
    simp [State.capsAmong, hc]

theorem State.releaseCaps_among {ls : List Station} (hls : ls.Nodup) (s : State) :
    ∃ gone, ReleasesAmong s (ls.foldl State.releaseCap s) ls gone := by
  induction ls generalizing s with
  | nil => exact ⟨[], .nil s⟩
  | cons l ls ih =>
    obtain ⟨hl, hls⟩ := List.nodup_cons.1 hls
    rw [List.foldl_cons]
    cases hc : s.capped l with
    | true =>
      obtain ⟨g, first⟩ := State.releaseCap_released hc
      obtain ⟨gone, rest⟩ := ih hls (s.releaseCap l)
      exact ⟨g ++ gone, .cons_capped hl hc first rest⟩
    | false =>
      rw [State.releaseCap_of_not_capped hc]
      obtain ⟨gone, rest⟩ := ih hls s
      exact ⟨gone, rest.cons_not_capped hc⟩

end Sys2Proof.Machine
end

/-! # Proofs: the entry into FALLBACK -/

section
namespace Sys2Proof.Machine

theorem filter_waitingKey_length_le {q : List CommandEntry} (h : q.Pairwise notSameWaiting) (l : Station) (item : Item) :
    (q.filter (waitingKey l item)).length ≤ 1 := by
  have apart := h.filter (waitingKey l item)
  have keyed : ∀ e ∈ q.filter (waitingKey l item), waitingKey l item e = true := fun e he => (List.mem_filter.1 he).2
  generalize q.filter (waitingKey l item) = xs at apart keyed
  match xs, apart, keyed with
  | [], _, _ => exact Nat.zero_le 1
  | [_], _, _ => exact Nat.le_refl 1
  | d :: e :: _, apart, keyed =>
    obtain ⟨dwait, dl, ditem⟩ := waitingKey_iff.1 (keyed d (by simp))
    obtain ⟨ewait, el, eitem⟩ := waitingKey_iff.1 (keyed e (by simp))
    exact absurd ⟨dwait, ewait, dl.trans el.symm, ditem.trans eitem.symm⟩ ((List.pairwise_cons.1 apart).1 e (by simp))

/-! ## The network as the releases begin, and as they end (R49, R76) -/

/-- The state in which the releases begin: in FALLBACK, the flag raised. -/
def State.fallbackRaised (s : State) : State := ({ s with mode := .fallback, clearMark := false } : State).raiseAll .fallback

section
variable (s : State)

theorem State.queue_fallbackRaised (r : TrunkId) : s.fallbackRaised.queue r = s.queue r := by cases r <;> rfl

theorem State.releasesOn_fallbackRaised (r : TrunkId) (l : Station) :
    s.fallbackRaised.releasesOn stations r l ↔ s.capped l = true ∧ (s.map l).trunk = r :=
  ⟨fun h => h.2, fun h => ⟨mem_stations l, h⟩⟩

theorem State.hasFlag_fallbackRaised (q : PortId) : hasFlag (s.fallbackRaised.port q).flags .fallback := by
  rw [State.fallbackRaised, State.raiseAll, State.port_eachPort]
  exact hasFlag_or _ _

theorem State.capped_iff {l : Station} :
    s.capped l = true ↔ (∃ c, (s.limit l).state = .pending c) ∨ ∃ c, (s.limit l).state = .active c := by
  unfold State.capped
  cases (s.limit l).state <;> simp

theorem State.capsAmong_fallbackRaised : s.fallbackRaised.capsAmong stations = s.capsAmong stations := by
  simp only [State.capsAmong, State.queue_fallbackRaised]
  rfl

end

theorem State.reachFallback_released {s : State} (run : s.mode = .run) :
    ∃ w gone, ReleasesAmong s.fallbackRaised w stations gone
      ∧ s.reachFallback = { w with limits := Vector.replicate 120 LimitEntry.cleared } := by
  obtain ⟨gone, h⟩ := State.releaseCaps_among stations_nodup s.fallbackRaised
  refine ⟨_, gone, h, ?_⟩
  rw [State.reachFallback, if_neg fun fallback => NetMode.noConfusion (run.symm.trans fallback)]
  rfl

/-! ## The publishing -/

/-- The state that an expiry leaves once its record is published (R46, R61). -/
def State.published (s : State) (r : Record) (due : Nat) : State := { s.publish r with dispatchDue := due }

section
variable (s : State) (r : Record) (due : Nat)

theorem State.queue_published (t : TrunkId) : (s.published r due).queue t = s.queue t := by cases t <;> rfl

theorem State.port_published (q : PortId) :
    (s.published r due).port q = { s.port q with
      flags := (s.port q).flags ||| (if (s.port q).state = .closed ∨ (s.port q).state = .shut then 0 else FlagSet.dispatch) } := by
  refine (State.port_publish s r q).trans ?_
  split <;> simp

end

/-- Work done before the publishing is all that differs after it. -/
theorem WorkFrame.published {s t : State} (h : WorkFrame s t) (r : Record) (due : Nat) :
    WorkFrame { s with dispatchDue := due, sequence := r.sequence, previous := s.current, current := some r }
      (t.published r due) := by
  obtain ⟨all, ports, images⟩ := h
  refine ⟨?_, fun q => ?_, images⟩
  · exact congrArg (fun y : State => { y.published r due with ports := (t.published r due).ports }) all
  · rw [State.port_published, ports q]
    rfl

/-! ## The expiry -/

/-- The state at the moment of the expiry, with nothing done yet (R46). -/
abbrev State.atExpiry (s : State) : State := s.await s.dispatchDue

section
variable {s : State}

theorem modeAtExpiry_of_deserted (run : s.mode = .run) (deserted : ¬s.HasLivePlant) : s.modeAtExpiry = .fallback := by
  have dead : s.plantLive = false := Bool.eq_false_iff.2 fun live => deserted (s.plantLive_iff.1 live)
  simp only [State.modeAtExpiry, run, dead]
  rfl

theorem exec_dispatchExpiry_deserted (on : s.powered = true) (run : s.mode = .run) (deserted : ¬s.HasLivePlant) :
    exec .dispatchExpiry s = .next (s.atExpiry.reachFallback.published
      s.atExpiry.reachFallback.fallbackRecord
      (max s.clock s.dispatchDue + s.params.dispatchPeriod * 115200)) := by
  have reached : s.atExpiry.modeAtExpiry = .fallback := modeAtExpiry_of_deserted run deserted
  rw [exec_dispatchExpiry on, State.dispatchOnce_of_fallback reached]
  rfl

end

/-- What the entry into FALLBACK leaves in the ports and the images, in sound queues (R49, R76, R131). -/
theorem ReleasesAmong.told {s w : State} {gone : List CommandEntry} (h : ReleasesAmong s.fallbackRaised w stations gone)
    (a : QueueSound (s.queue .a)) (b : QueueSound (s.queue .b)) :
    (∀ l, w.image l = { s.image l with override := (s.image l).override.map (refusedBy (s.capsAmong stations) l) })
    ∧ ∃ v, DropsReach (s.capsAmong stations) (fun _ => []) 0 s v ∧ (∀ r, v.queue r = w.queue r)
      ∧ ∀ q, w.port q = (v.port q).raise .fallback := by
  have sound : ∀ r, QueueSound (s.queue r) := fun r => by cases r <;> assumption
  have all : gone = s.capsAmong stations := by
    rw [← s.capsAmong_fallbackRaised]
    refine h.gone_eq fun l r _ => ?_
    rw [s.queue_fallbackRaised]
    obtain ⟨-, unique, -⟩ := sound r
    exact filter_waitingKey_length_le unique l .cap
  subst all
  refine ⟨h.image, ?_⟩
  obtain ⟨v, reaches, queue, port⟩ := h.reaches.raised_before
  exact ⟨v, reaches.of_ports (fun _ => rfl) rfl, queue, port⟩

end Sys2Proof.Machine

open Sys2Proof.Machine in
/-- Settles O19: the releases of the stations' caps one after the other, between the raising of FALLBACK and the publishing of
the record. -/
theorem fallbackIsEntered : Obligations.FallbackIsEntered := by
  intro s on run deserted
  obtain ⟨w, gone, rel, released⟩ := State.reachFallback_released (s := s.atExpiry) run
  have frame := WorkFrame.reachFallback s.atExpiry
  have state : ∀ q, (s.atExpiry.reachFallback.port q).state = (s.port q).state := fun q => by
    rw [frame.2.1]
    rfl
  have fields : s.atExpiry.reachFallback.setpoint = s.setpoint
      ∧ s.atExpiry.reachFallback.sequence = s.sequence
      ∧ s.atExpiry.reachFallback.clock = max s.clock s.dispatchDue := by
    rw [frame.1]
    exact ⟨rfl, rfl, rfl⟩
  obtain ⟨setpoint, sequence, clock⟩ := fields
  have port : ∀ q, s.atExpiry.reachFallback.port q = w.port q := fun q => by rw [released]; rfl
  have queue : ∀ tr r due, (s.atExpiry.reachFallback.published r due).queue tr = w.queue tr := fun tr r due => by
    rw [State.queue_published, released]
    cases tr <;> rfl
  have before : ∀ tr, s.atExpiry.fallbackRaised.queue tr = s.queue tr := fun tr => by cases tr <;> rfl
  have releases : ∀ tr l, s.atExpiry.fallbackRaised.releasesOn stations tr l
      ↔ s.capped l = true ∧ (s.map l).trunk = tr := s.atExpiry.releasesOn_fallbackRaised
  refine ⟨_, _, exec_dispatchExpiry_deserted on run deserted, rfl, rfl, rfl, rfl, setpoint, ?_, ?_,
    frame.published _ _, fun q => ?_, fun q closed shut => ?_, fun l => ?_, fun l hl => ?_, fun tr e he => ?_,
    fun tr e he => ?_, fun a b => ?_⟩
  · rw [← sequence]; rfl
  · rw [← clock]; rfl
  · rw [State.port_published, port]
    exact hasFlag_or_left (rel.reaches.keepsFlag (State.hasFlag_fallbackRaised _ q))
  · rw [State.port_published, state, if_neg (not_or.2 ⟨closed, shut⟩)]
    exact hasFlag_or _ _
  · rw [released]
    exact replicate_get ..
  · rw [queue, ← before]
    exact rel.offered _ l ((releases _ l).2 ⟨(State.capped_iff s).2 hl, rfl⟩)
  · rw [queue]
    rw [← before] at he
    refine (rel.kept tr e he).imp id fun ⟨l, on, key, _⟩ => ?_
    obtain rfl : e.index = l := (waitingKey_iff.1 key).2.1
    exact ⟨key, (releases tr _).1 on⟩
  · rw [queue] at he
    rw [← before]
    refine (rel.new tr e he).imp id fun ⟨l, on, eq⟩ => ?_
    subst eq
    exact ⟨rfl, (releases tr l).1 on⟩
  · obtain ⟨image, v, reaches, held, raised⟩ := rel.told a b
    refine ⟨fun l => ?_, v, reaches.of_ports (fun _ => rfl) rfl, fun tr => ?_, fun q => ?_⟩
    · have same : s.atExpiry.reachFallback.image l = w.image l := by rw [released]; rfl
      exact same.trans (image l)
    · rw [queue, held]
    · rw [State.port_published, state, port, raised]
      rfl

end

/-! # Proofs: the limiter's decisions -/

section
namespace Sys2Proof.Machine

/-! ## The limiter's words (R67, R68) -/

theorem MapPart.eligible_iff (m : MapPart) : m.eligible = true ↔ m.exempt = false ∧ 0 < m.qc := by
  simp [MapPart.eligible]

theorem MapPart.eligible_of_isLowNow {x : Params} {m : MapPart} {r : Reading} (low : isLowNow x m r) : m.eligible = true := by
  obtain ⟨exempt, qc, -⟩ := low
  exact m.eligible_iff.2 ⟨exempt, qc⟩

theorem differs_iff (x : Params) (a b : Nat) : differs x a b = true ↔ b + x.capstep ≤ a ∨ a + x.capstep ≤ b := by
  simp only [differs, decide_eq_true_eq]
  omega

theorem shows_iff (status : Option StatusSet) (condition : StatusSet → Bool) :
    shows status condition = true ↔ ∃ st, status = some st ∧ condition st = true := by
  cases status <;> simp [shows]

/-! ## The rows of R69 to R72 -/

section
variable {x : Params} {m : MapPart} {r : Reading} {status : Option StatusSet} {e : LimitEntry} {c : Nat}

theorem decideNone_of_low (low : isLowNow x m r) : decideNone x m r status = .queue (some (capNow x m r)) 0 := by
  rw [decideNone, if_pos (isLow_iff x m r |>.2 low), capOf_eq]

theorem decideNone_of_capActive (low : ¬isLowNow x m r) (shown : shows status StatusSet.capActive = true) :
    decideNone x m r status = .queue none 0 := by
  rw [decideNone, if_neg (mt (isLow_iff x m r).1 low), if_pos shown]

theorem decideNone_of_quiet (low : ¬isLowNow x m r) (shown : ¬shows status StatusSet.capActive = true) :
    decideNone x m r status = .keep { state := .none, recovery := 0 } := by
  rw [decideNone, if_neg (mt (isLow_iff x m r).1 low), if_neg shown]
  rfl

/-- The test by which R70 and R71 replace a cap: the entry is low and its cap has moved by capstep or more. -/
theorem isLow_and_differs_iff : (isLow x m r = true ∧ differs x (capOf x m r) c = true)
    ↔ isLowNow x m r ∧ (c + x.capstep ≤ capNow x m r ∨ capNow x m r + x.capstep ≤ c) := by
  rw [isLow_iff, differs_iff, capOf_eq]

theorem not_ineligible {m : MapPart} (h : m.eligible = true) : ¬m.eligible = false := by simp [h]

theorem decidePending_of_not_eligible (h : ¬m.eligible = true) : decidePending x m r e (some c) = .queue none 0 :=
  if_pos (Bool.eq_false_iff.2 h)

theorem decidePending_of_far (low : isLowNow x m r) (far : c + x.capstep ≤ capNow x m r ∨ capNow x m r + x.capstep ≤ c) :
    decidePending x m r e (some c) = .queue (some (capNow x m r)) 0 := by
  rw [← capOf_eq]
  exact (if_neg (not_ineligible (m.eligible_of_isLowNow low))).trans (if_pos (isLow_and_differs_iff.2 ⟨low, far⟩))

theorem decidePending_of_near (h : m.eligible = true)
    (near : ¬(isLowNow x m r ∧ (c + x.capstep ≤ capNow x m r ∨ capNow x m r + x.capstep ≤ c))) :
    decidePending x m r e (some c) = .keep e :=
  (if_neg (not_ineligible h)).trans (if_neg (mt isLow_and_differs_iff.1 near))

theorem decidePending_none_of_low (low : isLowNow x m r) :
    decidePending x m r e none = .queue (some (capNow x m r)) 0 := by
  rw [← capOf_eq]
  exact if_pos ((isLow_iff x m r).2 low)

theorem decidePending_none_of_not_low (low : ¬isLowNow x m r) : decidePending x m r e none = .keep e :=
  if_neg (mt (isLow_iff x m r).1 low)

theorem decideActive_of_not_eligible (h : ¬m.eligible = true) : decideActive x m r e c = .queue none 0 :=
  if_pos (Bool.eq_false_iff.2 h)

theorem decideActive_of_far (low : isLowNow x m r) (far : c + x.capstep ≤ capNow x m r ∨ capNow x m r + x.capstep ≤ c) :
    decideActive x m r e c = .queue (some (capNow x m r)) 0 := by
  rw [← capOf_eq]
  exact (if_neg (not_ineligible (m.eligible_of_isLowNow low))).trans (if_pos (isLow_and_differs_iff.2 ⟨low, far⟩))

theorem decideActive_of_near (low : isLowNow x m r)
    (near : ¬(c + x.capstep ≤ capNow x m r ∨ capNow x m r + x.capstep ≤ c)) :
    decideActive x m r e c = .keep { e with recovery := 0 } := by
  rw [decideActive, if_neg (not_ineligible (m.eligible_of_isLowNow low)),
    if_neg (mt isLow_and_differs_iff.1 fun h => near h.2), if_pos ((isLow_iff x m r).2 low)]

/-- The last three rows of R71: the entry counts towards its release while it is recovered. -/
theorem decideActive_of_not_low (h : m.eligible = true) (low : ¬isLowNow x m r) :
    decideActive x m r e c =
      if isRecoveredNow x r ∧ 2 ≤ e.recovery then .queue none (min 3 (e.recovery + 1))
      else if isRecoveredNow x r then .keep { e with recovery := e.recovery + 1 }
      else .keep { e with recovery := 0 } := by
  rw [decideActive, if_neg (not_ineligible h), if_neg (mt isLow_and_differs_iff.1 fun h => low h.1),
    if_neg (mt (isLow_iff x m r).1 low)]
  simp only [isRecovered_iff]

theorem decideBlocked_of_local (shown : shows status StatusSet.local = true) : decideBlocked x m r status e = .keep e :=
  if_pos shown

theorem decideBlocked_of_not_local (shown : ¬shows status StatusSet.local = true) :
    decideBlocked x m r status e = decideNone x m r status := if_neg shown

end

/-! ## A decision carried out (R73) -/

/-- No waiting CAP of an entry in scope is another originator's, so that none is displaced with an outcome. -/
theorem State.carryOut_queue {s : State} {l : Station} (inside : s.ScopedNow l) (cap : Option Nat) (count : Nat) :
    LimiterQueues s l cap count (s.carryOut l (.queue cap count)) := by
  rcases s.offerCommand_cases (s.map l).trunk l .cap cap .limiter with
    ⟨i, old, hi, hw, taken⟩ | ⟨free, ⟨room, taken⟩ | ⟨full, taken⟩⟩
  · have own : old.originator = .limiter := by
      obtain ⟨-, index, item⟩ := waitingKey_iff.1 hw
      exact inside.2.2 old (List.mem_of_getElem? hi) index item
    refine .inl ⟨.inl ⟨old, List.mem_of_getElem? hi, hw⟩, _, .inl ⟨i, old, hi, hw, rfl⟩, ?_⟩
    simp only [State.carryOut, taken, State.displaced, own, if_true]
  · refine .inl ⟨.inr room, _, .inr ⟨free, rfl⟩, ?_⟩
    simp only [State.carryOut, taken]
  · refine .inr ⟨free, full, ?_⟩
    simp only [State.carryOut, taken]

theorem State.evaluateEntry_of_not_scoped {s : State} {l : Station} (h : ¬s.ScopedNow l) : s.evaluateEntry l = s :=
  if_neg (mt (s.inScope_iff l).1 h)

theorem State.evaluateEntry_of_scoped {s : State} {l : Station} {r : Reading} (h : s.ScopedNow l)
    (reading : (s.image l).reading = some r) :
    s.evaluateEntry l = s.carryOut l (decideEntry s.params (s.map l) r (s.image l).status (s.limit l)) := by
  simp only [State.evaluateEntry, (s.inScope_iff l).2 h, if_true, reading]

end Sys2Proof.Machine

open Sys2Proof.Machine in
/-- Settles O26, row by row of the entry's state. -/
theorem limiterDecidesByItsTables : Obligations.LimiterDecidesByItsTables := by
  intro s l r reading x m e low recovered cap eligible far shown t keeps asNone
  refine ⟨State.evaluateEntry_of_not_scoped, fun inside => ?_⟩
  have carried : t = s.carryOut l (decideEntry x m r (s.image l).status e) := State.evaluateEntry_of_scoped inside reading
  have queued : ∀ {c n}, decideEntry x m r (s.image l).status e = .queue c n → LimiterQueues s l c n t := fun d => by
    rw [carried, d]
    exact State.carryOut_queue inside _ _
  have kept : ∀ {y}, decideEntry x m r (s.image l).status e = .keep y → keeps y := fun d => by
    change t = _
    rw [carried, d]
    rfl
  have none_rows : decideEntry x m r (s.image l).status e = decideNone x m r (s.image l).status → asNone := fun d =>
    ⟨fun hlow => queued (d.trans (decideNone_of_low hlow)),
      fun hlow h => queued (d.trans (decideNone_of_capActive hlow ((shows_iff _ _).2 h))),
      fun hlow h => kept (d.trans (decideNone_of_quiet hlow (mt (shows_iff _ _).1 h)))⟩
  have ineligible : ¬eligible → ¬m.eligible = true := mt m.eligible_iff.1
  refine ⟨fun state => none_rows ?_, fun c state => ?_, fun state => ?_, fun c state => ?_, fun c state => ?_⟩
  · rw [decideEntry, state]
  · have d : decideEntry x m r (s.image l).status e = decidePending x m r e (some c) := by rw [decideEntry, state]
    exact ⟨fun h => queued (d.trans (decidePending_of_not_eligible (ineligible h))),
      fun hlow hfar => queued (d.trans (decidePending_of_far hlow hfar)),
      fun h near => kept (d.trans (decidePending_of_near (m.eligible_iff.2 h) near))⟩
  · have d : decideEntry x m r (s.image l).status e = decidePending x m r e none := by rw [decideEntry, state]
    exact ⟨fun hlow => queued (d.trans (decidePending_none_of_low hlow)),
      fun hlow => kept (d.trans (decidePending_none_of_not_low hlow))⟩
  · have d : decideEntry x m r (s.image l).status e = decideActive x m r e c := by rw [decideEntry, state]
    refine ⟨fun h => queued (d.trans (decideActive_of_not_eligible (ineligible h))),
      fun hlow hfar => queued (d.trans (decideActive_of_far hlow hfar)),
      fun hlow near => kept (d.trans (decideActive_of_near hlow near)), fun h hlow hrec two => queued ?_,
      fun h hlow hrec two => kept ?_, fun h hlow hrec => kept ?_⟩ <;>
      rw [d, decideActive_of_not_low (m.eligible_iff.2 h) hlow]
    · rw [if_pos ⟨hrec, two⟩]
    · rw [if_neg fun h => Nat.not_le.2 two h.2, if_pos hrec]
    · rw [if_neg fun h => hrec h.1, if_neg hrec]
  · exact ⟨fun h => kept (by rw [decideEntry, state]; exact decideBlocked_of_local ((shows_iff _ _).2 h)),
      fun h => none_rows (by rw [decideEntry, state]; exact decideBlocked_of_not_local (mt (shows_iff _ _).1 h))⟩

end

/-! # Proofs: an evaluation of the limiter -/

section
namespace Sys2Proof.Machine

/-! ## A queue that has taken an entry (R120) -/

section
variable {q q' : List CommandEntry} {e : CommandEntry}

theorem TakesEntry.mem (h : TakesEntry q e q') : e ∈ q' := by
  rcases h with ⟨i, old, hi, -, rfl⟩ | ⟨-, rfl⟩
  · exact List.mem_set (List.getElem?_eq_some_iff.1 hi).1 _
  · simp

theorem TakesEntry.new (h : TakesEntry q e q') {d : CommandEntry} (hd : d ∈ q') : d ∈ q ∨ d = e := by
  rcases h with ⟨i, old, -, -, rfl⟩ | ⟨-, rfl⟩
  · exact List.mem_or_eq_of_mem_set hd
  · simpa using hd

theorem TakesEntry.kept (h : TakesEntry q e q') {d : CommandEntry} (hd : d ∈ q) :
    d ∈ q' ∨ waitingKey e.index e.item d = true := by
  rcases h with ⟨i, old, hi, key, rfl⟩ | ⟨-, rfl⟩
  · rcases mem_set_or_eq_old e hi hd with hd | rfl
    · exact .inl hd
    · exact .inr key
  · exact .inl (List.mem_append_left _ hd)

end

/-! ## What an evaluation touches (R67, R73) -/

/-- Of the limiter's work: it touches the limiter entries and the queues alone, takes no entry into scope and none out of it, and
leaves the entries that are not in scope. -/
structure LimiterWorks (s t : State) : Prop where
  frame : t = { s with
    limits := t.limits
    trunkA := { s.trunkA with queue := t.trunkA.queue }
    trunkB := { s.trunkB with queue := t.trunkB.queue } }
  scope : ∀ k, t.ScopedNow k ↔ s.ScopedNow k
  limit : ∀ k, ¬s.ScopedNow k → t.limit k = s.limit k

theorem LimiterWorks.refl (s : State) : LimiterWorks s s := ⟨rfl, fun _ => .rfl, fun _ _ => rfl⟩

theorem LimiterWorks.trans {s t u : State} (h : LimiterWorks s t) (k : LimiterWorks t u) : LimiterWorks s u where
  frame := by
    have frame := k.frame
    rw [h.frame] at frame
    exact frame
  scope l := (k.scope l).trans (h.scope l)
  limit l out := (k.limit l (mt (h.scope l).1 out)).trans (h.limit l out)

theorem LimiterWorks.setLimit {s : State} {l : Station} (inside : s.ScopedNow l) (x : LimitEntry) :
    LimiterWorks s (s.setLimit l x) where
  frame := rfl
  scope k := by simp only [State.ScopedNow, State.image_setLimit, State.queue_setLimit, State.map_setLimit]
  limit k out := by
    have hk : k ≠ l := fun h => out (h ▸ inside)
    rw [State.limit_setLimit, if_neg hk]

/-- A CAP of the limiter's own, in the place of another of its own, changes the scope of no entry. -/
theorem LimiterWorks.setQueue {s : State} {l : Station} (inside : s.ScopedNow l) {cap : Option Nat} {q : List CommandEntry}
    (takes : TakesEntry (s.queue (s.map l).trunk) (newEntry l .cap cap .limiter) q) :
    LimiterWorks s (s.setQueue (s.map l).trunk q) where
  frame := by cases (s.map l).trunk <;> rfl
  scope k := by
    have same : (∀ e ∈ q, e.index = k → e.item = .cap → e.originator = .limiter)
        ↔ ∀ e ∈ s.queue (s.map l).trunk, e.index = k → e.item = .cap → e.originator = .limiter := by
      refine ⟨fun h e he hk hc => ?_, fun h e he hk hc => ?_⟩
      · rcases takes.kept he with he | key
        · exact h e he hk hc
        · exact inside.2.2 e he (waitingKey_iff.1 key).2.1 hc
      · rcases takes.new he with he | rfl
        · exact h e he hk hc
        · rfl
    have image : (s.setQueue (s.map l).trunk q).image k = s.image k := by simp
    have map : (s.setQueue (s.map l).trunk q).map k = s.map k := by simp
    rw [State.ScopedNow, State.ScopedNow, image, map]
    refine and_congr_right fun _ => and_congr_right fun _ => ?_
    by_cases trunk : (s.map k).trunk = (s.map l).trunk
    · rw [trunk]
      simpa using same
    · simp [trunk]
  limit k _ := by simp

theorem LimiterWorks.evaluateEntry (s : State) (l : Station) : LimiterWorks s (s.evaluateEntry l) := by
  by_cases inside : s.ScopedNow l
  · cases reading : (s.image l).reading with
    | none =>
      have passed : s.evaluateEntry l = s := by simp only [State.evaluateEntry, reading, ite_self]
      rw [passed]
      exact .refl s
    | some r =>
      rw [State.evaluateEntry_of_scoped inside reading]
      cases decideEntry s.params (s.map l) r (s.image l).status (s.limit l) with
      | keep e => exact .setLimit inside e
      | queue cap count =>
        rcases State.carryOut_queue inside cap count with ⟨-, q, takes, h⟩ | ⟨-, -, h⟩ <;> rw [h]
        · have works := LimiterWorks.setQueue inside takes
          exact works.trans (.setLimit ((works.scope l).2 inside) _)
        · exact .setLimit inside _
  · rw [State.evaluateEntry_of_not_scoped inside]
    exact .refl s

theorem LimiterWorks.evaluate (s : State) : LimiterWorks s s.evaluate := by
  have fold : ∀ (ls : List Station) (u : State), LimiterWorks u (ls.foldl State.evaluateEntry u) := by
    intro ls
    induction ls with
    | nil => exact .refl
    | cons l ls ih => exact fun u => (LimiterWorks.evaluateEntry u l).trans (ih _)
  exact fold stations s

end Sys2Proof.Machine

open Sys2Proof.Machine in
/-- Settles O25: the evaluation is a fold over the stations, each of whose steps is the limiter's work. -/
theorem limiterWorksInRun : Obligations.LimiterWorksInRun := by
  intro s on now u
  have expiry : exec .limiterExpiry s = .next (match s.mode with
      | .run => u.evaluate
      | .starting | .fallback => u) := if_pos on
  refine ⟨fun idle => ?_, fun run => ⟨u.evaluate, ?_, rfl, (LimiterWorks.evaluate u).frame, fun l out => ?_⟩⟩
  · rw [expiry]
    cases mode : s.mode with
    | run => exact absurd mode idle
    | starting | fallback => rfl
  · rw [expiry, run]
  · exact (LimiterWorks.evaluate u).limit l out

end

/-! # Proofs: the outcomes of ended commands -/

section
namespace Sys2Proof.Machine

/-! ## What an ending reports (R73, R74, R80, R131) -/

theorem State.deliver_of_module {s : State} {e : CommandEntry} (h : e.originator = .module) (o : CommandEnd) :
    s.deliver e o = s := by
  simp only [State.deliver, h]

theorem State.deliver_of_limiter {s : State} {e : CommandEntry} (h : e.originator = .limiter) (o : CommandEnd) :
    s.deliver e o =
      if (s.limit e.index).state = .pending e.value then s.setLimit e.index ((s.limit e.index).after e.value o) else s := by
  simp only [State.deliver, h, State.limiterOutcome]
  cases (s.limit e.index).state with
  | pending cap =>
    by_cases same : cap = e.value
    · simp [same]
    · simp [same]
  | none | active c | blocked c => simp

/-- The report of a port's entry, before CMD is raised in DRAINED (R80, R131). -/
def State.reported (s : State) (p : PortId) (e : CommandEntry) (o : CommandEnd) : State :=
  (s.addOutcome p e.index e.item e.value o).judgeDelivery p e.index e.item e.value o

theorem State.deliver_of_port {s : State} {e : CommandEntry} {p : PortId} (h : e.originator = .port p) (o : CommandEnd) :
    s.deliver e o = if e.releaseReported then s.flagDrained p else (s.reported p e o).flagDrained p := by
  simp only [State.deliver, h]
  rfl

@[simp] theorem State.limits_flagDrained (s : State) (p : PortId) : (s.flagDrained p).limits = s.limits := by
  unfold State.flagDrained; split <;> simp

@[simp] theorem State.queue_reported (s : State) (p : PortId) (e : CommandEntry) (o : CommandEnd) (t : TrunkId) :
    (s.reported p e o).queue t = s.queue t := by simp [State.reported, State.addOutcome]

theorem State.limits_reported (s : State) (p : PortId) (e : CommandEntry) (o : CommandEnd) :
    (s.reported p e o).limits = s.limits := by
  unfold State.reported State.judgeDelivery; split <;> [split; skip] <;> simp [State.addOutcome]

theorem State.port_reported (s : State) (p : PortId) (e : CommandEntry) (o : CommandEnd) :
    (s.reported p e o).port p = (s.port p).addOutcome ⟨e.index, e.item, e.value, o, s.clock⟩ := by
  rw [State.reported, State.port_judgeDelivery]
  simp [State.addOutcome]

theorem State.image_reported_none {s : State} (p : PortId) {e : CommandEntry} (o : CommandEnd)
    (h : (s.image e.index).override = none) : (s.reported p e o).image e.index = s.image e.index := by
  have added : (s.addOutcome p e.index e.item e.value o).image e.index = s.image e.index := by simp [State.addOutcome]
  simp only [State.reported, State.judgeDelivery, added, h]

theorem Delivery.after_eq (o : CommandEnd) : Delivery.after o = if o = .done then .applied else .refused := by
  cases o <;> rfl

theorem State.override_reported {s : State} (p : PortId) {e : CommandEntry} (o : CommandEnd) {ov : Override}
    (h : (s.image e.index).override = some ov) :
    ((s.reported p e o).image e.index).override =
      some (if ov.owner = p ∧ ov.item = e.item ∧ ov.value = e.value then
        { ov with delivery := if o = .done then .applied else .refused } else ov) := by
  have added : (s.addOutcome p e.index e.item e.value o).image e.index = s.image e.index := by simp [State.addOutcome]
  simp only [State.reported, State.judgeDelivery, added, h]
  split
  · simp [Delivery.after_eq]
  · rw [added, h]

theorem State.flagDrained_eq (s : State) (p : PortId) :
    s.flagDrained p =
      if (s.port p).notify = .drained ∧ portEntries (s.queue .a) p + portEntries (s.queue .b) p = 0 then
        s.setPort p { s.port p with flags := (s.port p).flags ||| .cmd } else s := rfl

/-- CMD after an ending that is reported: in EACH with the outcome, and in DRAINED where no entry is left. -/
theorem State.flags_flagDrained_reported (s : State) (p : PortId) (e : CommandEntry) (o : CommandEnd) :
    (((s.reported p e o).flagDrained p).port p).flags =
      if (s.port p).notify = .each ∨ portEntries (s.queue .a) p + portEntries (s.queue .b) p = 0 then
        (s.port p).flags ||| .cmd else (s.port p).flags := by
  have notify : ((s.reported p e o).port p).notify = (s.port p).notify := by rw [State.port_reported]; rfl
  rw [State.flagDrained_eq, notify, State.queue_reported, State.queue_reported]
  cases mode : (s.port p).notify with
  | each => simp [State.port_reported, Port.addOutcome, mode]
  | drained =>
    have added : ((s.reported p e o).port p).flags = (s.port p).flags := by simp [State.port_reported, Port.addOutcome, mode]
    simp only [true_and, reduceCtorEq, false_or]
    split <;> simp [added]

theorem State.outcomes_flagDrained (s : State) (p : PortId) :
    ((s.flagDrained p).port p).outcomes = (s.port p).outcomes ∧ ((s.flagDrained p).port p).overrun = (s.port p).overrun := by
  rw [State.flagDrained_eq]
  split <;> simp

end Sys2Proof.Machine

open Sys2Proof.Machine in
/-- Settles O11, by the entry's originator. -/
theorem outcomesGoToTheirOriginator : Obligations.OutcomesGoToTheirOriginator := by
  intro s e o
  refine ⟨fun h => State.deliver_of_module h o, fun h => ⟨fun other => ?_, fun pending => ?_⟩, fun p h => ?_⟩
  · rw [State.deliver_of_limiter h, if_neg other]
  · rw [State.deliver_of_limiter h, if_pos pending]
    refine ⟨?_, ?_, ?_, ?_⟩
    · rintro rfl c value
      rw [value]; rfl
    · rintro rfl value
      rw [value]; rfl
    · rintro rfl; rfl
    · rintro (rfl | rfl) <;> rfl
  · intro t left
    have delivered : t = if e.releaseReported then s.flagDrained p else (s.reported p e o).flagDrained p :=
      State.deliver_of_port h o
    have trunk : ∀ r, t.trunk r = s.trunk r := s.trunk_deliver e o
    refine ⟨fun unreported => ?_, fun reported => ?_, .deliver s e o, trunk .a, trunk .b, ?_, fun q hq => ?_,
      fun l hl => s.image_deliver e o l hl⟩
    · have delivered : t = (s.reported p e o).flagDrained p := delivered.trans (if_neg (by simp [unreported]))
      rw [delivered, State.flags_flagDrained_reported, State.image_flagDrained]
      obtain ⟨outcomes, overrun⟩ := (s.reported p e o).outcomes_flagDrained p
      rw [outcomes, overrun, State.port_reported]
      refine ⟨rfl, rfl, fun raised => if_pos raised, fun drained held => if_neg ?_,
        fun ov => State.override_reported p o, State.image_reported_none p o⟩
      rintro (each | empty)
      · rw [drained] at each; cases each
      · exact held empty
    · rw [delivered, if_pos reported]
      rfl
    · rw [delivered]
      split <;> simp [State.limits_reported]
    · exact s.port_deliver e o q fun k => hq (by rw [h] at k; exact (Originator.port.inj k).symm)

end

/-! # Proofs: the refusals of OVERRIDE -/

section
namespace Sys2Proof.Machine

/-! ## A request of an operator -/

section
variable {i : Instr} {s t : State} {p : PortId} {tag code : Nat} {f : State → Carried}

theorem exec_operator_refused {c : ResponseCode} (h : s.Operates p) (hi : exec i s = .next (s.request p tag code .operator f))
    (hf : f (s.received p) = answerCode (s.received p) c) :
    exec i s = .next ((s.received p).answers p (codeResponse tag code c)) := by
  rw [hi, State.request_operator s p tag code f h, hf]; rfl

theorem exec_operator_ok {payload : List Byte} (h : s.Operates p)
    (hi : exec i s = .next (s.request p tag code .operator f)) (hf : f (s.received p) = answerOk t payload) :
    exec i s = .next (t.answers p (okResponse tag code payload)) := by
  rw [hi, State.request_operator s p tag code f h, hf]; rfl

end

/-! ## The one entry that a test picks -/

/-- A search finds the one entry that a test picks, and erasing it leaves the others. -/
theorem find?_erase_filter {q : List CommandEntry} {test : CommandEntry → Bool} (few : (q.filter test).length ≤ 1) :
    (∃ e, q.find? test = some e ∧ q.erase e = q.filter (!test ·)) ∨ (q.find? test = none ∧ q.filter (!test ·) = q) := by
  have erased := erase_filter test q
  have found : (q.filter test).head? = q.find? test := List.head?_filter
  match picked : q.filter test, few with
  | [], _ =>
    rw [picked] at erased found
    exact .inr ⟨found.symm, erased.symm⟩
  | [e], _ =>
    rw [picked] at erased found
    exact .inl ⟨e, found.symm, erased⟩

theorem isLimiterCap_iff {l : Station} {e : CommandEntry} :
    isLimiterCap l e = true ↔ waitingKey l .cap e = true ∧ e.originator = .limiter := by
  simp [isLimiterCap]

theorem filter_isLimiterCap_length_le {q : List CommandEntry} (h : q.Pairwise notSameWaiting) (l : Station) :
    (q.filter (isLimiterCap l)).length ≤ 1 := by
  have both : q.filter (isLimiterCap l) = (q.filter (waitingKey l .cap)).filter fun e => e.originator == .limiter := by
    rw [List.filter_filter]
    exact List.filter_congr fun e _ => Bool.and_comm _ _
  rw [both]
  exact (List.length_filter_le _ _).trans (filter_waitingKey_length_le h l .cap)

/-! ## The room for an override (R77, R78) -/

/-- A trunk's queue without the limiter's waiting CAP for the station. -/
def withoutLimiterCap (q : List CommandEntry) (l : Station) : List CommandEntry := q.filter (!isLimiterCap l ·)

theorem placesNeeded_filter_le (q : List CommandEntry) (test : CommandEntry → Bool) (l : Station) (item : Item) :
    placesNeeded q l item ≤ placesNeeded (q.filter test) l item := by
  unfold placesNeeded
  by_cases h : ∃ e ∈ q.filter test, waitingKey l item e = true
  · obtain ⟨e, he, key⟩ := h
    rw [if_pos ⟨e, (List.mem_filter.1 he).1, key⟩]
    exact Nat.zero_le _
  · rw [if_neg h]
    split <;> omega

theorem length_withoutLimiterCap {q : List CommandEntry} (h : q.Pairwise notSameWaiting) (l : Station) :
    q.length ≤ (withoutLimiterCap q l).length
      + if ∃ e ∈ q, waitingKey l .cap e = true ∧ e.originator = .limiter then 1 else 0 := by
  have split := List.length_eq_length_filter_add (l := q) (isLimiterCap l)
  have few := filter_isLimiterCap_length_le h l
  split_ifs with held
  · rw [withoutLimiterCap]
    omega
  · have none_held : q.filter (isLimiterCap l) = [] :=
      List.filter_eq_nil_iff.2 fun e he cap => held ⟨e, he, isLimiterCap_iff.1 cap⟩
    rw [none_held, List.length_nil] at split
    rw [withoutLimiterCap]
    omega

section
variable {s : State} {l : Station} {it : Item}

theorem State.roomForOverride_none (free : (s.image l).override = none)
    (unique : (s.queue (s.map l).trunk).Pairwise notSameWaiting) :
    s.roomForOverride l it = true ↔
      (withoutLimiterCap (s.queue (s.map l).trunk) l).length + placesNeeded (withoutLimiterCap (s.queue (s.map l).trunk) l) l it
        ≤ 16 := by
  simp only [State.roomForOverride, free, withoutLimiterCap]
  rcases find?_erase_filter (filter_isLimiterCap_length_le unique l) with ⟨e, found, rest⟩ | ⟨found, rest⟩
  · simp only [found, rest, hasRoom, roomNeeded_eq, decide_eq_true_eq]
  · simp only [found, rest, hasRoom, roomNeeded_eq, decide_eq_true_eq]

theorem State.roomForOverride_some {ov : Override} (held : (s.image l).override = some ov) :
    s.roomForOverride l it = true ↔
      (s.queue (s.map l).trunk).length + placesNeeded (s.queue (s.map l).trunk) l it
        + (if ov.item = it then 0 else placesNeeded (s.queue (s.map l).trunk) l ov.item) ≤ 16 := by
  simp only [State.roomForOverride, held]
  split_ifs <;> simp only [hasRoom, roomNeeded_eq, decide_eq_true_eq] <;> omega

/-! ## OVERRIDE's judgement (R77) -/

theorem overrideItem_code (h : it = .cap ∨ it = .hold) : overrideItem it.code = some it := by
  rcases h with rfl | rfl <;> rfl

theorem overrideItem_unknown {item : Nat} (cap : item ≠ 1) (hold : item ≠ 2) : overrideItem item = none := by
  match item, cap, hold with
  | 0, _, _ | 3, _, _ | n + 4, _, _ => rfl

variable {p : PortId} {item value : Nat}

theorem State.carryOverride_unbound (h : (s.image l).state = .unbound) :
    s.carryOverride p l.val item value = answerCode s .badIndex := by
  simp only [State.carryOverride, stationOf_val, h, if_true]

theorem State.carryOverride_unknown (bound : (s.image l).state ≠ .unbound) (h : overrideItem item = none) :
    s.carryOverride p l.val item value = answerCode s .unknown := by
  simp only [State.carryOverride, stationOf_val, bound, if_false, h]

theorem State.carryOverride_held {ov : Override} (bound : (s.image l).state ≠ .unbound) (hit : it = .cap ∨ it = .hold)
    (held : (s.image l).override = some ov) (other : ov.owner ≠ p) :
    s.carryOverride p l.val it.code value = answerCode s .held := by
  simp only [State.carryOverride, stationOf_val, bound, if_false, overrideItem_code hit, held, Option.any_some]
  exact if_pos (decide_eq_true other)

theorem State.carryOverride_qfull (bound : (s.image l).state ≠ .unbound) (hit : it = .cap ∨ it = .hold)
    (own : ∀ ov, (s.image l).override = some ov → ov.owner = p) (full : ¬s.roomForOverride l it = true) :
    s.carryOverride p l.val it.code value = answerCode s .qfull := by
  have mine : (s.image l).override.any (·.owner ≠ p) = false := by
    cases h : (s.image l).override with
    | none => rfl
    | some ov => simp [own ov h]
  simp only [State.carryOverride, stationOf_val, bound, if_false, overrideItem_code hit, mine, Bool.false_eq_true,
    Bool.eq_false_iff.2 full, if_true]

end

end Sys2Proof.Machine

open Sys2Proof.Machine in
/-- Settles O28, refusal by refusal in R77's order. -/
theorem overrideRefusals : Obligations.OverrideRefusals := by
  intro p tag value s h refusedBy
  have refused : ∀ {index item c}, (s.received p).carryOverride p index item value = answerCode (s.received p) c →
      refusedBy index item c := fun carried => exec_operator_refused h rfl carried
  refine ⟨fun index item out => refused ?_, fun l => ⟨fun item unbound => refused (State.carryOverride_unbound unbound),
    fun bound => ⟨fun item cap hold => refused (State.carryOverride_unknown bound (overrideItem_unknown cap hold)),
      fun it hit => ⟨fun ov held other => refused (State.carryOverride_held bound hit held other), ?_⟩⟩⟩⟩
  · simp only [State.carryOverride, stationOf_of_le out]
  · intro q freed sound
    obtain ⟨-, unique, -⟩ := sound
    refine ⟨fun free full => ?_, fun ov held own full => ?_⟩
    · refine refused (State.carryOverride_qfull bound hit (fun ov held => ?_) fun room => ?_)
      · rw [State.image_received, free] at held; cases held
      · have room : (withoutLimiterCap q l).length + placesNeeded (withoutLimiterCap q l) l it ≤ 16 :=
          (State.roomForOverride_none free unique).1 room
        have shorter : q.length ≤ (withoutLimiterCap q l).length + freed := length_withoutLimiterCap unique l
        have more := placesNeeded_filter_le q (!isLimiterCap l ·) l it
        rw [← withoutLimiterCap] at more
        omega
    · refine refused (State.carryOverride_qfull bound hit (fun ov' held' => ?_) fun room => ?_)
      · rw [State.image_received, held] at held'
        cases held'
        exact own
      · have room : q.length + placesNeeded q l it + (if ov.item = it then 0 else placesNeeded q l ov.item) ≤ 16 :=
          (State.roomForOverride_some held).1 room
        omega

end

/-! # Proofs: what dropped entries report, and RELEASE -/

section
namespace Sys2Proof.Machine

/-! ## What dropped entries report, with all that they leave -/

/-- The entries `gone` have been reported DROPPED between the two states, one after the other: in the ports, the limiter entries
and the overrides (R74, R80, R131). -/
structure Reports (gone : List CommandEntry) (s t : State) : Prop where
  reaches : DropsReach gone (fun _ => []) 0 s t
  limit : ∀ k, t.limit k = clearedBy gone k (s.limit k)
  image : ∀ k, t.image k = { s.image k with override := (s.image k).override.map (refusedBy gone k) }

theorem Reports.of_silent {s t : State} (port : ∀ p, t.port p = s.port p) (limit : ∀ k, t.limit k = s.limit k)
    (image : ∀ k, t.image k = s.image k) : Reports [] s t where
  reaches := .of_ports_eq port
  limit k := by rw [limit]; simp [clearedBy]
  image k := by rw [image, refusedBy_nil]; simp

theorem Reports.dropEntry (s : State) (t : TrunkId) (e : CommandEntry) : Reports [e] s (s.dropEntry t e) where
  reaches := s.dropEntry_reaches t e
  limit := s.limit_dropEntry t e
  image := s.image_dropEntry t e

theorem Reports.displaced (s : State) (t : TrunkId) (q : List CommandEntry) (old : CommandEntry) (o : Originator) :
    Reports (if old.originator = o then [] else [old]) s ((s.setQueue t q).displaced old o) := by
  unfold State.displaced
  split_ifs
  · exact .of_silent (fun p => by simp) (fun k => by simp) fun k => by simp
  · refine ⟨s.deliver_dropped_reaches t old q, fun k => ?_, s.image_deliver_dropped t old q⟩
    rw [State.deliver_dropped_eq, State.limit_dropEntry]
    simp

/-- The waiting entries of a key that an entry of the originator displaces with an outcome (R120). -/
def displacedBy (q : List CommandEntry) (l : Station) (item : Item) (o : Originator) : List CommandEntry :=
  q.filter fun e => waitingKey l item e && e.originator != o

theorem displacedBy_eq (q : List CommandEntry) (l : Station) (item : Item) (o : Originator) :
    displacedBy q l item o = (q.filter (waitingKey l item)).filter fun e => e.originator != o := by
  rw [displacedBy, List.filter_filter]
  exact List.filter_congr fun e _ => Bool.and_comm _ _

theorem displacedBy_of_none {q : List CommandEntry} {l : Station} {item : Item} (h : ∀ d ∈ q, waitingKey l item d = false)
    (o : Originator) : displacedBy q l item o = [] :=
  List.filter_eq_nil_iff.2 fun d hd => by simp [h d hd]

theorem mem_displacedBy {q : List CommandEntry} {l : Station} {item : Item} {o : Originator} {e : CommandEntry} :
    e ∈ displacedBy q l item o ↔ e ∈ q ∧ waitingKey l item e = true ∧ e.originator ≠ o := by
  simp [displacedBy]

/-- An entry offered to a queue with at most one waiting entry of its key. -/
theorem Reports.offerIfRoom {s : State} {t : TrunkId} {l : Station} {item : Item}
    (few : ((s.queue t).filter (waitingKey l item)).length ≤ 1) (value : Option Nat) (o : Originator) :
    Reports (displacedBy (s.queue t) l item o) s (s.offerIfRoom t l item value o) := by
  rcases s.offerCommand_cases t l item value o with ⟨i, old, hi, hw, taken⟩ | ⟨free, ⟨-, taken⟩ | ⟨-, taken⟩⟩
  · have gone : displacedBy (s.queue t) l item o = if old.originator = o then [] else [old] := by
      rw [displacedBy_eq, filter_eq_singleton few (List.mem_of_getElem? hi) hw]
      by_cases same : old.originator = o <;> simp [same]
    rw [gone, State.offerIfRoom, taken, Option.getD_some]
    exact .displaced s t _ old o
  · rw [displacedBy_of_none free, State.offerIfRoom, taken, Option.getD_some]
    exact .of_silent (fun p => by simp) (fun k => by simp) fun k => by simp
  · rw [displacedBy_of_none free, State.offerIfRoom, taken, Option.getD_none]
    exact .of_silent (fun _ => rfl) (fun _ => rfl) fun _ => rfl

/-! ## The same entries, told by another list -/

/-- Of the entries gone, a port is told of its own alone. -/
theorem droppedOutcomes_ofPort (g : List CommandEntry) (p : PortId) (n : Nat) :
    droppedOutcomes (g.filter (·.ofPort)) p n = droppedOutcomes g p n := by
  rw [droppedOutcomes, droppedOutcomes, List.filter_filter]
  refine congrArg _ (List.filter_congr fun e _ => ?_)
  by_cases own : e.originator = .port p
  · simp [CommandEntry.ofPort_of_port own]
  · simp [own]

theorem DropsReach.congr_gone {g h : List CommandEntry} {told : PortId → List OutcomeEntry} {f : FlagSet} {s t : State}
    (same : g.filter (·.ofPort) = h.filter (·.ofPort)) (reaches : DropsReach g told f s t) : DropsReach h told f s t := by
  have dropped : ∀ p n, droppedOutcomes g p n = droppedOutcomes h p n := fun p n => by
    rw [← droppedOutcomes_ofPort g, same, droppedOutcomes_ofPort]
  have held : ∀ (xs : List CommandEntry) (p : PortId),
      (∃ e ∈ xs, e.originator = .port p) ↔ ∃ e ∈ xs.filter (·.ofPort), e.originator = .port p := fun xs p => by
    simp only [List.mem_filter]
    exact ⟨fun ⟨e, he, ho⟩ => ⟨e, ⟨he, CommandEntry.ofPort_of_port ho⟩, ho⟩, fun ⟨e, he, ho⟩ => ⟨e, he.1, ho⟩⟩
  intro p
  have reached := reaches p
  rw [dropped, held, same, ← held] at reached
  exact reached

theorem clearedBy_congr {g h : List CommandEntry} (same : ∀ e, e.originator = .limiter → (e ∈ g ↔ e ∈ h)) (l : Station)
    (x : LimitEntry) : clearedBy g l x = clearedBy h l x := by
  have held : (∃ e ∈ g, e.index = l ∧ e.originator = .limiter ∧ x.state = .pending e.value)
      ↔ ∃ e ∈ h, e.index = l ∧ e.originator = .limiter ∧ x.state = .pending e.value := by
    refine exists_congr fun e => ⟨fun ⟨he, hl, ho, hx⟩ => ⟨(same e ho).1 he, hl, ho, hx⟩,
      fun ⟨he, hl, ho, hx⟩ => ⟨(same e ho).2 he, hl, ho, hx⟩⟩
  simp only [clearedBy, held]

/-! ## An entry offered after other work -/

/-- Droppings one after the other, of which the second adds an entry for a port only where one is left, and takes from the ports'
entries those it names. -/
theorem DropsReach.trans_held {g h : List CommandEntry} {told : PortId → List OutcomeEntry} {a b : FlagSet} {s t u : State}
    (st : DropsReach g told a s t) (tu : DropsReach h (fun _ => []) b t u) (clock : t.clock = s.clock)
    (added : ∀ p, (∀ r, ∀ e ∈ t.queue r, e.originator ≠ .port p) → ∀ r, ∀ e ∈ u.queue r, e.originator ≠ .port p)
    (taken : ∀ p, (∀ r, ∀ e ∈ u.queue r, e.originator ≠ .port p) →
      (∃ e ∈ h, e.originator = .port p) ∨ ∀ r, ∀ e ∈ t.queue r, e.originator ≠ .port p) :
    DropsReach (g ++ h) told (a ||| b) s u := by
  refine dropsReach_iff.2 fun p => ?_
  obtain ⟨f, hf, fd⟩ := dropsReach_iff.1 st p
  obtain ⟨k, hk, kd⟩ := dropsReach_iff.1 tu p
  have notify : (t.port p).notify = (s.port p).notify := by rw [hf]; simp [Port.raise]
  refine ⟨f ||| k, ?_, ?_⟩
  · rw [hk, hf, clock, List.nil_append, Port.addOutcomes_raise, Port.raise_raise, ← List.foldl_append, List.append_assoc,
      ← droppedOutcomes_append]
  · have split : (∃ e ∈ g ++ h, e.originator = .port p)
        ↔ (∃ e ∈ g, e.originator = .port p) ∨ ∃ e ∈ h, e.originator = .port p := by
      simp only [List.mem_append, or_and_right, exists_or]
    have drained : Drained (g ++ h) told s u p ↔ Drained g told s t p ∨ Drained h (fun _ => []) t u p := by
      rw [Drained, split]
      refine ⟨fun ⟨mode, ended, free⟩ => ?_, ?_⟩
      · rcases taken p free with second | before
        · exact .inr ⟨notify.trans mode, .inr second, free⟩
        · rcases ended with release | first | second
          · exact .inl ⟨mode, .inl release, before⟩
          · exact .inl ⟨mode, .inr first, before⟩
          · exact .inr ⟨notify.trans mode, .inr second, free⟩
      · rintro (⟨mode, ended, before⟩ | ⟨mode, ended, free⟩)
        · exact ⟨mode, ended.imp_right .inl, added p before⟩
        · exact ⟨notify.symm.trans mode, .inr (.inr (ended.resolve_left fun h => h rfl)), free⟩
    have raised : (FlagSet.cmd ||| a ||| (FlagSet.cmd ||| b)) = FlagSet.cmd ||| (a ||| b) := by
      rw [show FlagSet.cmd ||| a ||| (FlagSet.cmd ||| b) = (FlagSet.cmd ||| FlagSet.cmd) ||| (a ||| b) by ac_rfl, BitVec.or_self]
    rw [drained]
    rcases fd with ⟨x, rfl⟩ | ⟨x, rfl⟩ <;> rcases kd with ⟨y, rfl⟩ | ⟨y, rfl⟩
    · exact .inl ⟨.inl x, raised⟩
    · exact .inl ⟨.inl x, by ac_rfl⟩
    · exact .inl ⟨.inr y, by ac_rfl⟩
    · exact .inr ⟨not_or.2 ⟨x, y⟩, rfl⟩

/-- Droppings, and then an entry offered whose originator, where it is a port, has another entry in a queue. -/
theorem DropsReach.offerIfRoom {g : List CommandEntry} {told : PortId → List OutcomeEntry} {f : FlagSet} {s u : State}
    (reaches : DropsReach g told f s u) (clock : u.clock = s.clock) {t : TrunkId} {l : Station} {item : Item}
    (few : ((u.queue t).filter (waitingKey l item)).length ≤ 1) (value : Option Nat) {o : Originator}
    (held : ∀ p, o = .port p → ∃ r, ∃ e ∈ u.queue r, e.originator = .port p) :
    DropsReach (g ++ displacedBy (u.queue t) l item o) told f s (u.offerIfRoom t l item value o) := by
  have stays : ∀ r, r ≠ t → (u.offerIfRoom t l item value o).queue r = u.queue r :=
    fun r hr => u.queue_offerIfRoom t r l item value o hr
  have all := reaches.trans_held (Reports.offerIfRoom few value o).reaches clock ?added ?taken
  · rwa [show f ||| 0 = f from BitVec.or_zero] at all
  all_goals
    rcases u.offerIfRoom_takes t l item value o with takes | ⟨-, -, same⟩
  case added.inl =>
    intro p free r e he ho
    by_cases hr : r = t
    · subst hr
      rcases takes.new he with he | rfl
      · exact free r e he ho
      · obtain ⟨r', d, hd, hp⟩ := held p ho
        exact free r' d hd hp
    · rw [stays r hr] at he
      exact free r e he ho
  case added.inr => rw [same]; exact fun _ => id
  case taken.inl =>
    intro p free
    have others : o ≠ .port p := free t _ takes.mem
    refine or_iff_not_imp_left.2 fun untold r e he ho => ?_
    by_cases hr : r = t
    · subst hr
      rcases takes.kept he with he' | key
      · exact free r e he' ho
      · exact untold ⟨e, mem_displacedBy.2 ⟨he, key, fun k => others (k.symm.trans ho)⟩, ho⟩
    · exact free r e (by rwa [stays r hr]) ho
  case taken.inr => rw [same]; exact fun _ => .inr

end Sys2Proof.Machine
end

section
namespace Sys2Proof.Machine

/-! ## RELEASE (R81) -/

section
variable {s : State} {l : Station} {p : PortId} {ov : Override}

/-- The state with the station's override absent. -/
def State.withoutOverride (s : State) (l : Station) : State := s.setImage l { s.image l with override := none }

@[simp] theorem State.queue_withoutOverride (s : State) (l : Station) (r : TrunkId) :
    (s.withoutOverride l).queue r = s.queue r := by simp [State.withoutOverride]

@[simp] theorem State.port_withoutOverride (s : State) (l : Station) (q : PortId) :
    (s.withoutOverride l).port q = s.port q := rfl

@[simp] theorem State.limit_withoutOverride (s : State) (l k : Station) :
    (s.withoutOverride l).limit k = s.limit k := rfl

theorem State.image_withoutOverride (s : State) (l k : Station) :
    (s.withoutOverride l).image k = if k = l then { s.image l with override := none } else s.image k := by
  simp [State.withoutOverride]

theorem WorkFrame.withoutOverride (s : State) (l : Station) : WorkFrame s (s.withoutOverride l) := .setOverride s l none

theorem State.carryRelease_held (held : (s.image l).override = some ov) (other : ov.owner ≠ p) :
    s.carryRelease p l.val = answerCode s .held := by
  simp only [State.carryRelease, stationOf_val, held]
  exact if_pos other

theorem State.carryRelease_own (held : (s.image l).override = some ov) (own : ov.owner = p) :
    s.carryRelease p l.val =
      if (s.queue (s.map l).trunk).length + placesNeeded (s.queue (s.map l).trunk) l ov.item ≤ 16 then
        answerOk ((s.withoutOverride l).offerIfRoom (s.map l).trunk l ov.item none (.port p)) []
      else answerCode s .qfull := by
  simp only [State.carryRelease, stationOf_val, held, own, ne_eq, not_true, if_false, hasRoom, roomNeeded_eq,
    decide_eq_false_iff_not, ite_not]
  rfl

end

end Sys2Proof.Machine

open Sys2Proof.Machine in
/-- Settles O30: a release is the clearing of the field and one entry offered. -/
theorem releaseQueuesNone : Obligations.ReleaseQueuesNone := by
  intro p tag s h refusedBy
  have refused : ∀ {index c}, (s.received p).carryRelease p index = answerCode (s.received p) c → refusedBy index c :=
    fun carried => exec_operator_refused h rfl carried
  refine ⟨fun index out => refused ?_, fun l => ⟨fun free => refused ?_, fun ov held =>
    ⟨fun other => refused (State.carryRelease_held held other), fun own => ?_⟩⟩⟩
  · simp only [State.carryRelease, stationOf_of_le out]
  · simp only [State.carryRelease, stationOf_val, State.image_received, free]
  · intro tr q
    have carried := State.carryRelease_own (s := s.received p) held own
    refine ⟨fun full => refused (carried.trans (if_neg (Nat.not_le.2 full))), fun room => ?_⟩
    let u := (s.received p).withoutOverride l
    have queue : ∀ r, u.queue r = s.queue r := fun r => by simp [u]
    have gone : (u.image l).override = none := by simp [u, State.image_withoutOverride]
    have image : ∀ k, (u.offerIfRoom tr l ov.item none (.port p)).image k = u.image k :=
      fun k => u.image_offerIfRoom_none tr l k ov.item none (.port p) gone
    refine ⟨u.offerIfRoom tr l ov.item none (.port p), exec_operator_ok h rfl (carried.trans (if_pos room)), ?_, ?_,
      fun r hr => ?_, fun sound => ?_, (WorkFrame.withoutOverride _ l).trans (.offerIfRoom _ _ _ _ _ _), fun k hk => ?_⟩
    · rw [image, State.image_withoutOverride, if_pos rfl, State.image_received]
    · have takes := u.offerIfRoom_takes_of_room tr l ov.item none (.port p) (by rw [queue]; exact room)
      rw [queue] at takes
      exact takes
    · rw [State.queue_offerIfRoom _ _ _ _ _ _ _ hr, queue]
    · obtain ⟨-, unique, -⟩ := sound
      have few : ((u.queue tr).filter (waitingKey l ov.item)).length ≤ 1 := by
        rw [queue]; exact filter_waitingKey_length_le unique l ov.item
      have reports := Reports.offerIfRoom few none (.port p)
      rw [queue] at reports
      exact ⟨reports.reaches.of_ports (fun _ => rfl) rfl, reports.limit⟩
    · rw [image, State.image_withoutOverride, if_neg hk, State.image_received]

end

/-! # Proofs: OVERRIDE taken -/

section
namespace Sys2Proof.Machine

/-! ## How a queue grows (R120, R121) -/

section
variable {q q' : List CommandEntry} {e : CommandEntry} {l : Station} {item : Item}

theorem exists_waitingKey_iff (q : List CommandEntry) (l : Station) (item : Item) :
    (∃ e ∈ q, waitingKey l item e = true) ↔ q.filter (waitingKey l item) ≠ [] := by
  simp [List.filter_eq_nil_iff]

theorem placesNeeded_congr (h : q'.filter (waitingKey l item) = q.filter (waitingKey l item)) :
    placesNeeded q' l item = placesNeeded q l item := by
  simp only [placesNeeded, exists_waitingKey_iff, h]

theorem displacedBy_congr (h : q'.filter (waitingKey l item) = q.filter (waitingKey l item)) (o : Originator) :
    displacedBy q' l item o = displacedBy q l item o := by
  rw [displacedBy_eq, h, displacedBy_eq]

theorem TakesEntry.length (h : TakesEntry q e q') : q'.length = q.length + placesNeeded q e.index e.item := by
  rcases h with ⟨i, old, hi, key, rfl⟩ | ⟨free, rfl⟩
  · have held : ∃ d ∈ q, waitingKey e.index e.item d = true := ⟨old, List.mem_of_getElem? hi, key⟩
    rw [placesNeeded, if_pos held, List.length_set]
    rfl
  · have free : ¬∃ d ∈ q, waitingKey e.index e.item d = true := fun ⟨d, hd, key⟩ => by simp [free d hd] at key
    rw [placesNeeded, if_neg free, List.length_append]
    rfl

/-- The waiting entries of another item stay as they are. -/
theorem TakesEntry.filter_of_item_ne (h : TakesEntry q e q') (other : item ≠ e.item) :
    q'.filter (waitingKey l item) = q.filter (waitingKey l item) := by
  have skip : ∀ {d : CommandEntry}, d.item = e.item → waitingKey l item d = false := fun same =>
    Bool.eq_false_iff.2 fun key => other ((waitingKey_iff.1 key).2.2.symm.trans same)
  rcases h with ⟨i, old, hi, key, rfl⟩ | ⟨-, rfl⟩
  · exact filter_set_of_neg hi (skip (waitingKey_iff.1 key).2.2) (skip rfl)
  · rw [List.filter_append, List.filter_singleton, skip rfl]
    exact List.append_nil _

end

/-! ## The override field as entries are dropped -/

theorem refusedBy_of_not_own {g : List CommandEntry} {ov : Override} (h : ∀ e ∈ g, e.originator ≠ .port ov.owner) (l : Station) :
    refusedBy g l ov = ov := if_neg fun ⟨e, he, _, _, _, ho, _⟩ => h e he ho

theorem clearedBy_cleared (g : List CommandEntry) (l : Station) : clearedBy g l .cleared = .cleared := by
  unfold clearedBy
  split <;> rfl

theorem Reports.then_offer {g : List CommandEntry} {s u : State} (reports : Reports g s u) (clock : u.clock = s.clock)
    {t : TrunkId} {l : Station} {item : Item} (few : ((u.queue t).filter (waitingKey l item)).length ≤ 1) (value : Option Nat)
    {o : Originator} (held : ∀ p, o = .port p → ∃ r, ∃ e ∈ u.queue r, e.originator = .port p) :
    Reports (g ++ displacedBy (u.queue t) l item o) s (u.offerIfRoom t l item value o) where
  reaches := reports.reaches.offerIfRoom clock few value held
  limit k := by rw [(Reports.offerIfRoom few value o).limit, reports.limit, clearedBy_append]
  image k := by
    have both : refusedBy (g ++ displacedBy (u.queue t) l item o) k =
        refusedBy (displacedBy (u.queue t) l item o) k ∘ refusedBy g k := funext fun ov => refusedBy_append _ _ k ov
    rw [(Reports.offerIfRoom few value o).image, reports.image, both]
    simp

/-- What an OVERRIDE leaves of the station's field, and of other stations and the other trunk (R78, R79). -/
structure OverrideTaken (s t : State) (l : Station) (p : PortId) (item : Item) (value : Option Nat) : Prop where
  override : (t.image l).override = some { owner := p, item := item, value := value, delivery := .pending }
  frame : WorkFrame s t
  others : ∀ k, k ≠ l → t.image k = s.image k ∧ t.limit k = s.limit k
  queues : ∀ r, r ≠ (s.map l).trunk → t.queue r = s.queue r

section
variable {s : State} {l : Station} {p : PortId} {it old : Item} {value : Option Nat}

@[simp] theorem State.queue_setOverride (s : State) (l : Station) (p : PortId) (item : Item) (value : Option Nat) (r : TrunkId) :
    (s.setOverride l p item value).queue r = s.queue r := by simp [State.setOverride]

@[simp] theorem State.limit_setOverride (s : State) (l k : Station) (p : PortId) (item : Item) (value : Option Nat) :
    (s.setOverride l p item value).limit k = s.limit k := rfl

@[simp] theorem State.port_setOverride (s : State) (l : Station) (p q : PortId) (item : Item) (value : Option Nat) :
    (s.setOverride l p item value).port q = s.port q := rfl

theorem State.image_setOverride (s : State) (l k : Station) (p : PortId) (item : Item) (value : Option Nat) :
    (s.setOverride l p item value).image k =
      if k = l then { s.image l with override := some { owner := p, item := item, value := value, delivery := .pending } }
      else s.image k := by
  simp [State.setOverride]

/-! ## An override replaced by its owner (R79) -/

/-- Entries of the station alone are dropped, and then the field is set. -/
theorem OverrideTaken.of_reports {gone : List CommandEntry} {w : State} (reports : Reports gone s w)
    (index : ∀ e ∈ gone, e.index = l) (frame : WorkFrame s w) (queues : ∀ r, r ≠ (s.map l).trunk → w.queue r = s.queue r) :
    OverrideTaken s (w.setOverride l p it value) l p it value where
  override := by rw [State.image_setOverride, if_pos rfl]
  frame := frame.trans (.setOverride w l _)
  others k hk := by
    have elsewhere : ∀ e ∈ gone, e.index ≠ k := fun e he same => hk (same.symm.trans (index e he))
    have same : refusedBy gone k = id := funext fun ov => refusedBy_of_index_ne elsewhere ov
    rw [State.image_setOverride, if_neg hk, reports.image, same, State.limit_setOverride, reports.limit,
      clearedBy_of_index_ne elsewhere]
    simp
  queues r hr := by rw [State.queue_setOverride, queues r hr]

theorem index_of_mem_displacedBy {q : List CommandEntry} {item : Item} {o : Originator} {e : CommandEntry}
    (h : e ∈ displacedBy q l item o) : e.index = l := (waitingKey_iff.1 (mem_displacedBy.1 h).2.1).2.1

/-- A replacement by the same item. -/
theorem State.replaceOverride_same (unique : (s.queue (s.map l).trunk).Pairwise notSameWaiting)
    (room : (s.queue (s.map l).trunk).length + placesNeeded (s.queue (s.map l).trunk) l it ≤ 16) :
    OverrideTaken s (s.replaceOverride l p it it value) l p it value
      ∧ TakesEntry (s.queue (s.map l).trunk) (newEntry l it value (.port p))
          ((s.replaceOverride l p it it value).queue (s.map l).trunk)
      ∧ DropsReach (displacedBy (s.queue (s.map l).trunk) l it (.port p)) (fun _ => []) 0 s (s.replaceOverride l p it it value)
      ∧ (s.replaceOverride l p it it value).limit l =
          clearedBy (displacedBy (s.queue (s.map l).trunk) l it (.port p)) l (s.limit l) := by
  have replaced : s.replaceOverride l p it it value =
      (s.offerIfRoom (s.map l).trunk l it value (.port p)).setOverride l p it value := by
    simp only [State.replaceOverride, if_true]
  have reports := Reports.offerIfRoom (filter_waitingKey_length_le unique l it) value (.port p)
  rw [replaced]
  refine ⟨.of_reports reports (fun e he => index_of_mem_displacedBy he) (.offerIfRoom _ _ _ _ _ _)
    fun r hr => s.queue_offerIfRoom _ r l it value _ hr, ?_, ?_, ?_⟩
  · rw [State.queue_setOverride]
    exact s.offerIfRoom_takes_of_room _ l it value _ room
  · exact reports.reaches.to_ports (fun _ => rfl) fun r => by simp
  · exact reports.limit l

/-- A replacement by another item: NONE for the old item is queued first. -/
theorem State.replaceOverride_other (other : old ≠ it) (unique : (s.queue (s.map l).trunk).Pairwise notSameWaiting)
    (room : (s.queue (s.map l).trunk).length + placesNeeded (s.queue (s.map l).trunk) l it
      + placesNeeded (s.queue (s.map l).trunk) l old ≤ 16) :
    let q := s.queue (s.map l).trunk
    let gone := displacedBy q l old (.port p) ++ displacedBy q l it (.port p)
    OverrideTaken s (s.replaceOverride l p old it value) l p it value
      ∧ (∃ mid, TakesEntry q (newEntry l old none (.port p)) mid
          ∧ TakesEntry mid (newEntry l it value (.port p)) ((s.replaceOverride l p old it value).queue (s.map l).trunk))
      ∧ DropsReach gone (fun _ => []) 0 s (s.replaceOverride l p old it value)
      ∧ (s.replaceOverride l p old it value).limit l = clearedBy gone l (s.limit l) := by
  intro q gone
  change q.length + placesNeeded q l it + placesNeeded q l old ≤ 16 at room
  let u := s.offerIfRoom (s.map l).trunk l old none (.port p)
  have replaced : s.replaceOverride l p old it value =
      (u.offerIfRoom (s.map l).trunk l it value (.port p)).setOverride l p it value := by
    simp only [State.replaceOverride, other, if_false, u]
  have frame : WorkFrame s u := .offerIfRoom s _ _ _ _ _
  have first : TakesEntry q (newEntry l old none (.port p)) (u.queue (s.map l).trunk) :=
    s.offerIfRoom_takes_of_room _ l old none _ ((Nat.add_le_add_right (Nat.le_add_right _ _) _).trans room)
  have same : (u.queue (s.map l).trunk).filter (waitingKey l it) = q.filter (waitingKey l it) :=
    first.filter_of_item_ne other.symm
  have second : TakesEntry (u.queue (s.map l).trunk) (newEntry l it value (.port p))
      ((u.offerIfRoom (s.map l).trunk l it value (.port p)).queue (s.map l).trunk) := by
    refine u.offerIfRoom_takes_of_room _ l it value _ ?_
    have length : (u.queue (s.map l).trunk).length = q.length + placesNeeded q l old := first.length
    rw [placesNeeded_congr same, length]
    omega
  have reports : Reports gone s (u.offerIfRoom (s.map l).trunk l it value (.port p)) := by
    have reported := (Reports.offerIfRoom (filter_waitingKey_length_le unique l old) none (.port p)).then_offer frame.clock
      (by rw [same]; exact filter_waitingKey_length_le unique l it) value (o := .port p) fun x hx => ⟨_, _, first.mem, hx⟩
    rwa [displacedBy_congr same] at reported
  rw [replaced]
  refine ⟨.of_reports reports (fun e he => ?_) (frame.trans (.offerIfRoom _ _ _ _ _ _)) fun r hr => ?_,
    ⟨_, first, ?_⟩, reports.reaches.to_ports (fun _ => rfl) fun r => by simp, reports.limit l⟩
  · exact (List.mem_append.1 he).elim index_of_mem_displacedBy index_of_mem_displacedBy
  · rw [u.queue_offerIfRoom _ r l it value _ hr, s.queue_offerIfRoom _ r l old none _ hr]
  · rw [State.queue_setOverride]
    exact second

/-! ## An override placed (R78) -/

/-- The limiter's waiting CAP for the station is gone, and its end, which clears the limiter's own entry at most, reaches no port
and no override. -/
theorem State.dropLimiterCap_spec (unique : (s.queue (s.map l).trunk).Pairwise notSameWaiting) :
    (s.dropLimiterCap (s.map l).trunk l).queue (s.map l).trunk = withoutLimiterCap (s.queue (s.map l).trunk) l
      ∧ (∀ r, r ≠ (s.map l).trunk → (s.dropLimiterCap (s.map l).trunk l).queue r = s.queue r)
      ∧ (∀ q, (s.dropLimiterCap (s.map l).trunk l).port q = s.port q)
      ∧ (∀ k, (s.dropLimiterCap (s.map l).trunk l).image k = s.image k)
      ∧ ∀ k, k ≠ l → (s.dropLimiterCap (s.map l).trunk l).limit k = s.limit k := by
  rcases find?_erase_filter (filter_isLimiterCap_length_le unique l) with ⟨e, found, rest⟩ | ⟨found, rest⟩
  · obtain ⟨key, limiter⟩ := isLimiterCap_iff.1 (List.find?_some found)
    have dropped : s.dropLimiterCap (s.map l).trunk l = s.dropEntry (s.map l).trunk e := by
      simp only [State.dropLimiterCap, found]
    have reports := Reports.dropEntry s (s.map l).trunk e
    rw [dropped]
    refine ⟨by rw [State.queue_dropEntry, if_pos rfl]; exact rest, fun r hr => by simp [hr], fun q => ?_, fun k => ?_,
      fun k hk => ?_⟩
    · rw [State.dropEntry, State.port_deliver _ _ _ _ (by simp [limiter])]
      simp
    · have same : refusedBy [e] k = id := funext fun ov => refusedBy_of_not_own (by simp [limiter]) k
      rw [reports.image, same]
      simp
    · have index := (waitingKey_iff.1 key).2.1
      rw [reports.limit, clearedBy_of_index_ne (by simpa [index] using hk.symm)]
  · have kept : s.dropLimiterCap (s.map l).trunk l = s := by simp only [State.dropLimiterCap, found]
    rw [kept]
    exact ⟨rest.symm, fun _ _ => rfl, fun _ => rfl, fun _ => rfl, fun _ _ => rfl⟩

theorem ofPort_displacedBy_withoutLimiterCap (q : List CommandEntry) (l : Station) (item : Item) (o : Originator) :
    (displacedBy (withoutLimiterCap q l) l item o).filter (·.ofPort) = (displacedBy q l item o).filter (·.ofPort) := by
  rw [displacedBy, displacedBy, withoutLimiterCap, List.filter_filter, List.filter_filter, List.filter_filter]
  refine List.filter_congr fun e _ => ?_
  cases cap : isLimiterCap l e with
  | false => simp
  | true => simp [CommandEntry.ofPort, (isLimiterCap_iff.1 cap).2]

theorem State.placeOverride_spec (unique : (s.queue (s.map l).trunk).Pairwise notSameWaiting)
    (room : (withoutLimiterCap (s.queue (s.map l).trunk) l).length
      + placesNeeded (withoutLimiterCap (s.queue (s.map l).trunk) l) l it ≤ 16) :
    OverrideTaken s (s.placeOverride l p it value) l p it value
      ∧ (s.placeOverride l p it value).limit l = .cleared
      ∧ TakesEntry (withoutLimiterCap (s.queue (s.map l).trunk) l) (newEntry l it value (.port p))
          ((s.placeOverride l p it value).queue (s.map l).trunk)
      ∧ DropsReach (displacedBy (s.queue (s.map l).trunk) l it (.port p)) (fun _ => []) 0 s (s.placeOverride l p it value) := by
  let u := ((s.dropLimiterCap (s.map l).trunk l).setLimit l .cleared).setOverride l p it value
  have placed : s.placeOverride l p it value = u.offerIfRoom (s.map l).trunk l it value (.port p) := rfl
  obtain ⟨cap, queues, ports, images, limits⟩ := s.dropLimiterCap_spec unique
  have queue : u.queue (s.map l).trunk = withoutLimiterCap (s.queue (s.map l).trunk) l := by
    simpa only [u, State.queue_setOverride, State.queue_setLimit] using cap
  have few : ((u.queue (s.map l).trunk).filter (waitingKey l it)).length ≤ 1 := by
    rw [queue]
    exact filter_waitingKey_length_le (unique.filter _) l it
  have reports := Reports.offerIfRoom few value (.port p)
  have foreign : ∀ e ∈ displacedBy (u.queue (s.map l).trunk) l it (.port p), e.originator ≠ .port p :=
    fun e he => (mem_displacedBy.1 he).2.2
  refine ⟨⟨?_, .placeOverride s l p it value, fun k hk => ⟨?_, ?_⟩, fun r hr => ?_⟩, ?_, ?_, ?_⟩ <;> rw [placed]
  · rw [reports.image, State.image_setOverride, if_pos rfl, Option.map_some, refusedBy_of_not_own foreign]
  · rw [u.image_offerIfRoom _ l k it value _ hk, State.image_setOverride, if_neg hk, State.image_setLimit, images]
  · rw [reports.limit, clearedBy_of_index_ne fun e he same => hk (same.symm.trans (index_of_mem_displacedBy he)),
      State.limit_setOverride, State.limit_setLimit, if_neg hk, limits k hk]
  · rw [u.queue_offerIfRoom _ r l it value _ hr, State.queue_setOverride, State.queue_setLimit, queues r hr]
  · rw [reports.limit, State.limit_setOverride, State.limit_setLimit, if_pos rfl, clearedBy_cleared]
  · rw [← queue]
    exact u.offerIfRoom_takes_of_room _ l it value _ (queue ▸ room)
  · have reached := reports.reaches.of_ports (s' := s) (fun q => (ports q).symm) (WorkFrame.dropLimiterCap s _ l).clock.symm
    rw [queue] at reached
    exact reached.congr_gone (ofPort_displacedBy_withoutLimiterCap _ l it _)

/-! ## OVERRIDE carried out -/

theorem itemValue_eq (hit : it = .cap ∨ it = .hold) (value : Nat) :
    itemValue it value = if value = 65535 then none else some (min value (if it = .cap then 8000 else 1000)) := by
  unfold itemValue absentAt65535
  rcases hit with rfl | rfl <;> by_cases none_asked : value = 65535 <;> simp [none_asked]

variable {asked : Nat}

theorem State.carryOverride_placed (bound : (s.image l).state ≠ .unbound) (hit : it = .cap ∨ it = .hold)
    (free : (s.image l).override = none) (room : s.roomForOverride l it = true) :
    s.carryOverride p l.val it.code asked =
      answerOk (s.placeOverride l p it (itemValue it asked)) (byte it.code :: opt2 (itemValue it asked)) := by
  simp only [State.carryOverride, stationOf_val, bound, if_false, overrideItem_code hit, free, Option.any_none,
    Bool.false_eq_true, room, Bool.true_eq_false]

theorem State.carryOverride_replaced {ov : Override} (bound : (s.image l).state ≠ .unbound) (hit : it = .cap ∨ it = .hold)
    (held : (s.image l).override = some ov) (own : ov.owner = p) (room : s.roomForOverride l it = true) :
    s.carryOverride p l.val it.code asked =
      answerOk (s.replaceOverride l p ov.item it (itemValue it asked)) (byte it.code :: opt2 (itemValue it asked)) := by
  have mine : Option.any (fun x : Override => decide (x.owner ≠ p)) (some ov) = false := by simp [own]
  simp only [State.carryOverride, stationOf_val, bound, if_false, overrideItem_code hit, held, mine, Bool.false_eq_true, room,
    Bool.true_eq_false]

end

end Sys2Proof.Machine

open Sys2Proof Sys2Proof.Machine in
/-- Settles O29: a placement, a replacement by the same item and one by another. -/
theorem overrideIsTaken : Obligations.OverrideIsTaken := by
  intro p tag value s l it h bound hit tr q v mine new taken displaced drops sound
  obtain ⟨-, unique, -⟩ := sound
  have clamped : itemValue it value = v := itemValue_eq hit value
  have answered : ∀ {t}, (s.received p).carryOverride p l.val it.code value =
        answerOk t (byte it.code :: opt2 (itemValue it value)) →
      OverrideTaken (s.received p) t l p it v → taken t := fun carried done => by
    rw [clamped, opt2_eq] at carried
    exact ⟨exec_operator_ok h rfl carried, done.override, done.frame, done.others, done.queues⟩
  refine ⟨fun free => ?_, fun ov held own => ⟨fun same room => ?_, fun other room => ?_⟩⟩
  · intro cap room
    obtain ⟨done, limit, takes, reaches⟩ := State.placeOverride_spec (s := s.received p) (p := p) (value := v) unique room
    refine ⟨_, answered ?_ done, limit, takes, reaches, fun ov held => ?_⟩
    · rw [← clamped]
      exact State.carryOverride_placed bound hit free ((State.roomForOverride_none free unique).2 room)
    · rw [free] at held; cases held
  · subst same
    obtain ⟨done, takes, reaches, limit⟩ := State.replaceOverride_same (s := s.received p) (p := p) (value := v) unique room
    refine ⟨_, answered ?_ done, takes, reaches, fun _ _ => limit⟩
    rw [← clamped]
    exact State.carryOverride_replaced bound hit held own ((State.roomForOverride_some held).2 (by simpa using room))
  · obtain ⟨done, ⟨mid, first, second⟩, reaches, limit⟩ :=
      State.replaceOverride_other (s := s.received p) (p := p) (value := v) other unique room
    refine ⟨_, mid, answered ?_ done, first, second, reaches, fun _ _ => limit⟩
    rw [← clamped]
    exact State.carryOverride_replaced bound hit held own ((State.roomForOverride_some held).2 (by rw [if_neg other]; exact room))

end

/-! # Proofs: the release of an override by a lapse -/

section
namespace Sys2Proof.Machine

/-! ## The override's own command (R82) -/

/-- The entry waits, and is the override's own command. -/
def ownWaiting (ov : Override) (l : Station) (e : CommandEntry) : Bool :=
  e.waiting && e.index == l && e.item == ov.item && e.value == ov.value && e.originator == .port ov.owner

theorem ownWaiting_eq (ov : Override) (l : Station) (e : CommandEntry) :
    ownWaiting ov l e = (e.waiting && isOwnCommand ov l e) := by
  simp only [ownWaiting, isOwnCommand, Bool.and_assoc]

theorem ownWaiting_iff {ov : Override} {l : Station} {e : CommandEntry} :
    ownWaiting ov l e = true ↔ waitingKey l ov.item e = true ∧ e.value = ov.value ∧ e.originator = .port ov.owner := by
  simp only [ownWaiting, waitingKey, Bool.and_eq_true, beq_iff_eq, and_assoc]

/-- The waiting entries that the NONE of a release displaces, other than the override's own command. -/
def displacedByRelease (q : List CommandEntry) (l : Station) (ov : Override) : List CommandEntry :=
  q.filter fun e => waitingKey l ov.item e && !ownWaiting ov l e

section
variable {q : List CommandEntry} {l : Station} {ov : Override}

theorem displacedByRelease_of_own (unique : q.Pairwise notSameWaiting) {e : CommandEntry} (he : e ∈ q)
    (own : ownWaiting ov l e = true) : displacedByRelease q l ov = [] := by
  obtain ⟨key, -⟩ := ownWaiting_iff.1 own
  have only := filter_eq_singleton (filter_waitingKey_length_le unique l ov.item) he key
  refine List.filter_eq_nil_iff.2 fun d hd both => ?_
  obtain ⟨dkey, foreign⟩ := Bool.and_eq_true_iff.1 both
  have same : d ∈ [e] := only ▸ List.mem_filter.2 ⟨hd, dkey⟩
  rw [List.mem_singleton.1 same, own] at foreign
  cases foreign

theorem displacedByRelease_of_free (free : ∀ e ∈ q, waitingKey l ov.item e = false) : displacedByRelease q l ov = [] :=
  List.filter_eq_nil_iff.2 fun d hd => by simp [free d hd]

theorem displacedByRelease_length_le (unique : q.Pairwise notSameWaiting) : (displacedByRelease q l ov).length ≤ 1 := by
  have both : displacedByRelease q l ov = (q.filter (waitingKey l ov.item)).filter fun e => !ownWaiting ov l e := by
    rw [List.filter_filter]
    exact List.filter_congr fun e _ => Bool.and_comm _ _
  rw [both]
  exact (List.length_filter_le _ _).trans (filter_waitingKey_length_le unique l ov.item)

theorem mem_displacedByRelease (none_own : ∀ e ∈ q, ownWaiting ov l e = false) {e : CommandEntry} :
    e ∈ displacedByRelease q l ov ↔ e ∈ q ∧ waitingKey l ov.item e = true := by
  rw [displacedByRelease, List.mem_filter]
  refine and_congr_right fun he => ?_
  simp [none_own e he]

/-- Where no command of the override waits, what the NONE displaces is what an entry of MODULE displaces, but for entries of
MODULE itself, which report to no one. -/
theorem ofPort_displacedByRelease (none_own : ∀ e ∈ q, ownWaiting ov l e = false) :
    (displacedBy q l ov.item .module).filter (·.ofPort) = (displacedByRelease q l ov).filter (·.ofPort) := by
  rw [displacedBy, displacedByRelease, List.filter_filter, List.filter_filter]
  refine List.filter_congr fun e he => ?_
  rw [none_own e he]
  by_cases own : e.originator = .module
  · simp [CommandEntry.ofPort, own]
  · have foreign : (e.originator != .module) = true := bne_iff_ne.2 own
    rw [foreign]
    rfl

/-- In a queue without its one waiting entry of a key, none waits. -/
theorem waitingKey_erase {item : Item} (unique : q.Pairwise notSameWaiting) {e : CommandEntry} (he : e ∈ q)
    (key : waitingKey l item e = true) : ∀ d ∈ q.erase e, waitingKey l item d = false := by
  have rest := erase_filter (waitingKey l item) q
  rw [filter_eq_singleton (filter_waitingKey_length_le unique l item) he key, List.foldl_cons, List.foldl_nil] at rest
  intro d hd
  rw [rest] at hd
  simpa using (List.mem_filter.1 hd).2

end

/-! ## The state in which the NONE is offered -/

/-- What a release tells the owner: one DROPPED for the override's command. -/
def lapseTold (s : State) (l : Station) (ov : Override) (p : PortId) : List OutcomeEntry :=
  if p = ov.owner then [⟨l, ov.item, ov.value, .dropped, s.clock⟩] else []

/-- The owner has been told and the field cleared, and nothing else of the tables differs. -/
structure ToldAndCleared (s w : State) (l : Station) : Prop where
  override : (w.image l).override = none
  others : ∀ k, k ≠ l → w.image k = s.image k
  limit : ∀ k, w.limit k = s.limit k
  clock : w.clock = s.clock
  queues : ∀ r, r ≠ (s.map l).trunk → w.queue r = s.queue r

section
variable {s w : State} {l : Station} {ov : Override}

theorem ToldAndCleared.of_dropEntry {e : CommandEntry} (own : ownWaiting ov l e = true) :
    ToldAndCleared s ((s.dropEntry (s.map l).trunk e).withoutOverride l) l where
  override := by rw [State.image_withoutOverride, if_pos rfl]
  others k hk := by
    have index : e.index = l := (waitingKey_iff.1 (ownWaiting_iff.1 own).1).2.1
    rw [State.image_withoutOverride, if_neg hk, State.dropEntry, State.image_deliver _ _ _ _ (index ▸ hk)]
    simp
  limit k := by
    rw [State.limit_withoutOverride, State.limit_dropEntry]
    exact if_neg (by simp [(ownWaiting_iff.1 own).2.2])
  clock := (WorkFrame.dropEntry s _ e).clock
  queues r hr := by rw [State.queue_withoutOverride, State.queue_dropEntry, if_neg hr]

theorem ToldAndCleared.of_reportRelease (s : State) (l : Station) (ov : Override) :
    ToldAndCleared s ((s.reportRelease l ov).withoutOverride l) l where
  override := by rw [State.image_withoutOverride, if_pos rfl]
  others k hk := by rw [State.image_withoutOverride, if_neg hk, State.image_reportRelease]
  limit k := by rw [State.limit_withoutOverride, State.limit_reportRelease]
  clock := (WorkFrame.reportRelease s l ov).clock
  queues r _ := by rw [State.queue_withoutOverride, State.queue_reportRelease]

/-- One port's entry that is dropped tells its port what a report of the release tells. -/
theorem DropsReach.told_of_gone {e : CommandEntry} {f : FlagSet} (own : ownWaiting ov l e = true)
    (unreported : e.releaseReported = false) (reaches : DropsReach [e] (fun _ => []) f s w) :
    DropsReach [] (lapseTold s l ov) f s w := by
  obtain ⟨key, value, owner⟩ := ownWaiting_iff.1 own
  obtain ⟨-, index, item⟩ := waitingKey_iff.1 key
  intro p
  have reached := reaches p
  by_cases mine : p = ov.owner
  · subst mine
    simpa [lapseTold, droppedOutcomes, owner, unreported, index, item, value] using reached
  · simpa [lapseTold, droppedOutcomes, owner, mine, Ne.symm mine] using reached

/-- What a release does: the removal of the own command, or the report; then the field is cleared and NONE offered (R82). -/
theorem State.releaseOverride_cases (s : State) (l : Station) (ov : Override) :
    (∃ e ∈ s.queue (s.map l).trunk, ownWaiting ov l e = true
      ∧ s.releaseOverride l ov =
        ((s.dropEntry (s.map l).trunk e).withoutOverride l).offerIfRoom (s.map l).trunk l ov.item none .module)
    ∨ ((∀ e ∈ s.queue (s.map l).trunk, ownWaiting ov l e = false)
      ∧ s.releaseOverride l ov =
        ((s.reportRelease l ov).withoutOverride l).offerIfRoom (s.map l).trunk l ov.item none .module) := by
  cases found : (s.queue (s.map l).trunk).find? fun e => e.waiting && isOwnCommand ov l e with
  | some e =>
    have picked := List.find?_some found
    have own : ownWaiting ov l e = true := by
      rw [ownWaiting_eq]
      exact picked
    refine .inl ⟨e, List.mem_of_find?_eq_some found, own, ?_⟩
    simp only [State.releaseOverride, found]
    rfl
  | none =>
    refine .inr ⟨fun e he => ?_, ?_⟩
    · rw [ownWaiting_eq]
      exact Bool.eq_false_iff.2 (List.find?_eq_none.1 found e he)
    · simp only [State.releaseOverride, found]
      rfl

/-! ## A release, piece by piece -/

theorem State.releaseOverride_tables (s : State) (l : Station) (ov : Override) :
    ((s.releaseOverride l ov).image l).override = none
      ∧ (∀ k, k ≠ l → (s.releaseOverride l ov).image k = s.image k)
      ∧ ∀ r, r ≠ (s.map l).trunk → (s.releaseOverride l ov).queue r = s.queue r := by
  have offered : ∀ w, ToldAndCleared s w l →
      ((w.offerIfRoom (s.map l).trunk l ov.item none .module).image l).override = none
        ∧ (∀ k, k ≠ l → (w.offerIfRoom (s.map l).trunk l ov.item none .module).image k = s.image k)
        ∧ ∀ r, r ≠ (s.map l).trunk → (w.offerIfRoom (s.map l).trunk l ov.item none .module).queue r = s.queue r := by
    intro w told
    refine ⟨?_, fun k hk => ?_, fun r hr => ?_⟩
    · rw [w.image_offerIfRoom_none _ l l ov.item none _ told.override, told.override]
    · rw [w.image_offerIfRoom _ l k ov.item none _ hk, told.others k hk]
    · rw [w.queue_offerIfRoom _ r l ov.item none _ hr, told.queues r hr]
  rcases s.releaseOverride_cases l ov with ⟨e, -, own, released⟩ | ⟨-, released⟩ <;> rw [released]
  · exact offered _ (.of_dropEntry own)
  · exact offered _ (.of_reportRelease s l ov)

/-- The queue where the own command waits: it is removed, and NONE is appended in its room. -/
theorem State.releaseOverride_queue_own (sound : QueueSound (s.queue (s.map l).trunk)) {e : CommandEntry}
    (he : e ∈ s.queue (s.map l).trunk) (own : ownWaiting ov l e = true) :
    (s.releaseOverride l ov).queue (s.map l).trunk =
      (s.queue (s.map l).trunk).erase e ++ [newEntry l ov.item none .module] := by
  obtain ⟨short, unique, -⟩ := sound
  obtain ⟨key, -⟩ := ownWaiting_iff.1 own
  rcases s.releaseOverride_cases l ov with ⟨d, hd, down, released⟩ | ⟨none_own, -⟩
  · have same : d ∈ [e] := filter_eq_singleton (filter_waitingKey_length_le unique l ov.item) he key ▸
      List.mem_filter.2 ⟨hd, (ownWaiting_iff.1 down).1⟩
    obtain rfl := List.mem_singleton.1 same
    have queue : ((s.dropEntry (s.map l).trunk d).withoutOverride l).queue (s.map l).trunk =
        (s.queue (s.map l).trunk).erase d := by rw [State.queue_withoutOverride, State.queue_dropEntry, if_pos rfl]
    have free := waitingKey_erase unique he key
    rw [released]
    rcases State.offerIfRoom_takes ((s.dropEntry (s.map l).trunk d).withoutOverride l) (s.map l).trunk l ov.item none .module with
      takes | ⟨-, full, -⟩
    · rw [queue] at takes
      rcases takes with ⟨i, old, hi, held, -⟩ | ⟨-, appended⟩
      · have held : waitingKey l ov.item old = true := held
        rw [free old (List.mem_of_getElem? hi)] at held
        cases held
      · exact appended
    · rw [queue, List.length_erase_of_mem he] at full
      have := List.length_pos_of_mem he
      omega
  · rw [none_own e he] at own; cases own

/-- The queue where none waits: it takes the NONE, or is full for it. -/
theorem State.releaseOverride_queue_not_own (none_own : ∀ e ∈ s.queue (s.map l).trunk, ownWaiting ov l e = false) :
    TakesEntry (s.queue (s.map l).trunk) (newEntry l ov.item none .module) ((s.releaseOverride l ov).queue (s.map l).trunk)
      ∨ ((∀ e ∈ s.queue (s.map l).trunk, waitingKey l ov.item e = false) ∧ 16 ≤ (s.queue (s.map l).trunk).length
        ∧ (s.releaseOverride l ov).queue (s.map l).trunk = s.queue (s.map l).trunk) := by
  rcases s.releaseOverride_cases l ov with ⟨d, hd, own, -⟩ | ⟨-, released⟩
  · rw [none_own d hd] at own; cases own
  · have queue : ((s.reportRelease l ov).withoutOverride l).queue (s.map l).trunk = s.queue (s.map l).trunk := by
      rw [State.queue_withoutOverride, State.queue_reportRelease]
    have offered := State.offerIfRoom_takes ((s.reportRelease l ov).withoutOverride l) (s.map l).trunk l ov.item none .module
    rw [← released, queue] at offered
    refine offered.imp_right fun ⟨free, full, same⟩ => ⟨free, full, ?_⟩
    rw [same, queue]

/-- What a release reports: the owner's DROPPED first, and then the entries that the NONE displaces. -/
theorem State.releaseOverride_reaches (unique : (s.queue (s.map l).trunk).Pairwise notSameWaiting)
    (unreported : ∀ e ∈ s.queue (s.map l).trunk, ownWaiting ov l e = true → e.releaseReported = false) :
    DropsReach (displacedByRelease (s.queue (s.map l).trunk) l ov) (lapseTold s l ov) 0 s (s.releaseOverride l ov)
      ∧ ∀ k, (s.releaseOverride l ov).limit k =
          clearedBy (displacedByRelease (s.queue (s.map l).trunk) l ov) k (s.limit k) := by
  have offered : ∀ w, ToldAndCleared s w l → DropsReach [] (lapseTold s l ov) 0 s w →
      ((w.queue (s.map l).trunk).filter (waitingKey l ov.item)).length ≤ 1 →
      DropsReach (displacedBy (w.queue (s.map l).trunk) l ov.item .module) (lapseTold s l ov) 0 s
          (w.offerIfRoom (s.map l).trunk l ov.item none .module)
        ∧ ∀ k, (w.offerIfRoom (s.map l).trunk l ov.item none .module).limit k =
          clearedBy (displacedBy (w.queue (s.map l).trunk) l ov.item .module) k (s.limit k) := by
    intro w told reaches few
    refine ⟨reaches.offerIfRoom told.clock few none fun p hp => ?_, fun k => ?_⟩
    · cases hp
    rw [(Reports.offerIfRoom few none .module).limit, told.limit]
  rcases s.releaseOverride_cases l ov with ⟨e, he, own, released⟩ | ⟨none_own, released⟩ <;> rw [released]
  · have queue : ((s.dropEntry (s.map l).trunk e).withoutOverride l).queue (s.map l).trunk =
        (s.queue (s.map l).trunk).erase e := by rw [State.queue_withoutOverride, State.queue_dropEntry, if_pos rfl]
    have free := waitingKey_erase unique he (ownWaiting_iff.1 own).1
    have reaches : DropsReach [] (lapseTold s l ov) 0 s ((s.dropEntry (s.map l).trunk e).withoutOverride l) :=
      ((s.dropEntry_reaches (s.map l).trunk e).told_of_gone own (unreported e he own)).to_ports (fun _ => rfl) fun r => by simp
    have all := offered _ (.of_dropEntry own) reaches
      (by rw [queue]; exact filter_waitingKey_length_le (unique.sublist List.erase_sublist) l ov.item)
    rw [queue, displacedBy_of_none free] at all
    rw [displacedByRelease_of_own unique he own]
    exact all
  · have queue : ((s.reportRelease l ov).withoutOverride l).queue (s.map l).trunk = s.queue (s.map l).trunk := by
      rw [State.queue_withoutOverride, State.queue_reportRelease]
    have told : (fun p => if ov.owner = p then [(⟨l, ov.item, ov.value, .dropped, s.clock⟩ : OutcomeEntry)] else []) =
        lapseTold s l ov := funext fun p => by simp only [lapseTold, eq_comm]
    have reaches : DropsReach [] (lapseTold s l ov) 0 s ((s.reportRelease l ov).withoutOverride l) :=
      (told ▸ s.reportRelease_reaches l ov).to_ports (fun _ => rfl) fun r => by simp
    obtain ⟨reached, limits⟩ := offered _ (.of_reportRelease s l ov) reaches
      (by rw [queue]; exact filter_waitingKey_length_le unique l ov.item)
    rw [queue] at reached limits
    refine ⟨reached.congr_gone (ofPort_displacedByRelease none_own), fun k => (limits k).trans (clearedBy_congr ?_ k _)⟩
    intro e limiter
    rw [mem_displacedBy, mem_displacedByRelease none_own]
    simp [limiter]

/-- Where the NONE displaces nothing, the owner's list takes the one DROPPED. -/
theorem DropsReach.outcomes_of_lapse {f : FlagSet} (reaches : DropsReach [] (lapseTold s l ov) f s w) :
    (w.port ov.owner).outcomes =
      ((s.port ov.owner).addOutcome ⟨l, ov.item, ov.value, .dropped, s.clock⟩).outcomes := by
  obtain ⟨k, port, -⟩ := dropsReach_iff.1 reaches ov.owner
  rw [port]
  simp [lapseTold, droppedOutcomes, Port.raise]

end

end Sys2Proof.Machine

open Sys2Proof.Machine in
/-- Settles O15: the release is the telling of the owner, the clearing of the field and one entry offered. -/
theorem lapseReleasesAnOverride : Obligations.LapseReleasesAnOverride := by
  intro s l ov held tr q own free told t sound
  have ⟨_, unique, _⟩ := sound
  obtain ⟨override, others, queues⟩ := s.releaseOverride_tables l ov
  have reaches := fun unreported => State.releaseOverride_reaches (s := s) (l := l) (ov := ov) unique unreported
  refine ⟨override, fun e he mine unreported => ⟨s.releaseOverride_queue_own sound he mine, ?_⟩, fun none_own => ?_,
    fun unreported => reaches unreported, queues, .releaseOverride s l ov, others⟩
  · have only := filter_eq_singleton (filter_waitingKey_length_le unique l ov.item) he (ownWaiting_iff.1 mine).1
    obtain ⟨reached, -⟩ := reaches fun d hd dmine => by
      have same : d ∈ [e] := only ▸ List.mem_filter.2 ⟨hd, (ownWaiting_iff.1 dmine).1⟩
      rw [List.mem_singleton.1 same, unreported]
    rw [displacedByRelease_of_own unique he mine] at reached
    exact reached.outcomes_of_lapse
  · obtain ⟨reached, -⟩ := reaches fun d hd dmine => absurd (dmine.symm.trans (none_own d hd)) Bool.noConfusion
    refine ⟨reached.mem_outcomes ?_ ?_, State.releaseOverride_queue_not_own none_own, fun vacant => ?_⟩
    · simp [lapseTold, told]
    · have few := displacedByRelease_length_le (ov := ov) (l := l) unique
      have dropped := droppedOutcomes_length_le (displacedByRelease q l ov) ov.owner s.clock
      have one : (lapseTold s l ov ov.owner).length = 1 := by simp [lapseTold]
      rw [List.length_append, one]
      exact (Nat.add_le_add_left (dropped.trans few) 1).trans (by decide)
    · rw [displacedByRelease_of_free vacant] at reached
      exact reached.outcomes_of_lapse

end

/-! # Proofs: what work leaves of the queues and the trunks -/

section
namespace Sys2Proof.Machine

/-! ## Queues that stay sound -/

section
variable {q : List CommandEntry} {i : Nat} {d e old : CommandEntry}

theorem notSameWaiting_comm (h : notSameWaiting d e) : notSameWaiting e d :=
  fun ⟨he, hd, hindex, hitem⟩ => h ⟨hd, he, hindex.symm, hitem.symm⟩

/-- Where two entries are not apart, the first waits with the key of the second. -/
theorem waitingKey_of_same (h : d.waiting = true ∧ e.waiting = true ∧ d.index = e.index ∧ d.item = e.item) :
    waitingKey e.index e.item d = true := by
  obtain ⟨hd, -, hindex, hitem⟩ := h
  exact waitingKey_iff.2 ⟨hd, hindex, hitem⟩

/-- One entry changed in its place: the others stay apart in pairs where each is apart from the new one. -/
theorem pairwise_set (h : q.Pairwise notSameWaiting) (apart : ∀ j d, j ≠ i → q[j]? = some d → notSameWaiting d e) :
    (q.set i e).Pairwise notSameWaiting := by
  rw [List.pairwise_iff_getElem] at h ⊢
  intro j k hj hk hjk
  rw [List.length_set] at hj hk
  rw [List.getElem_set, List.getElem_set]
  split <;> split
  · omega
  · exact notSameWaiting_comm (apart k _ (by omega) (List.getElem?_eq_getElem hk))
  · exact apart j _ (by omega) (List.getElem?_eq_getElem hj)
  · exact h j k hj hk hjk

theorem QueueSound.pairwise (h : QueueSound q) : q.Pairwise notSameWaiting := by
  obtain ⟨-, hpairs, -⟩ := h
  exact hpairs

theorem QueueSound.entry (h : QueueSound q) (he : e ∈ q) : e.Sound := by
  obtain ⟨-, -, -, hentries⟩ := h
  exact hentries e he

theorem QueueSound.of_sublist {q' : List CommandEntry} (h : QueueSound q) (sub : q'.Sublist q) : QueueSound q' := by
  obtain ⟨hlength, hpairs, hone, hentries⟩ := h
  exact ⟨sub.length_le.trans hlength, hpairs.sublist sub, (sub.countP_le).trans hone, fun e he => hentries e (sub.subset he)⟩

/-- A sound entry in the place of another, of whose key no other entry waits, and which is in flight only where the other was
or none is. -/
theorem QueueSound.set (h : QueueSound q) (hi : q[i]? = some old) (he : e.Sound)
    (apart : e.waiting = true → ∀ j d, j ≠ i → q[j]? = some d → notSameWaiting d e)
    (flight : e.waiting = false → old.waiting = false ∨ ∀ d ∈ q, d.waiting = true) : QueueSound (q.set i e) := by
  obtain ⟨hlength, hpairs, hone, hentries⟩ := h
  obtain ⟨hlt, rfl⟩ := List.getElem?_eq_some_iff.1 hi
  refine ⟨by rwa [List.length_set], pairwise_set hpairs fun j d hj hd => ?_, ?_, fun d hd => ?_⟩
  · cases hw : e.waiting with
    | true => exact apart hw j d hj hd
    | false => exact fun ⟨_, waits, _⟩ => Bool.noConfusion (hw.symm.trans waits)
  · rw [List.countP_set hlt]
    cases hw : e.waiting with
    | true => simp; omega
    | false =>
      rcases flight hw with hold | hall
      · simp [hold]; omega
      · have : q.countP (fun d => !d.waiting) = 0 := List.countP_eq_zero.2 fun d hd => by simp [hall d hd]
        simp [this]
  · rcases List.mem_or_eq_of_mem_set hd with hd | rfl
    · exact hentries d hd
    · exact he

/-- In a sound queue only one entry is in flight. -/
theorem QueueSound.inFlight_unique (h : QueueSound q) {j : Nat} (hi : q[i]? = some d) (hd : d.waiting = false)
    (hj : q[j]? = some e) (he : e.waiting = false) : i = j :=
  (h.findIdx_inFlight hi hd).symm.trans (h.findIdx_inFlight hj he)

/-- What `replaceFirst` does: the first entry picked is replaced, or none is picked. -/
theorem replaceFirst_cases (q : List CommandEntry) (test : CommandEntry → Bool) (e : CommandEntry) :
    (∃ i old, q[i]? = some old ∧ test old = true ∧ replaceFirst q test e = q.set i e)
      ∨ ((∀ d ∈ q, test d = false) ∧ replaceFirst q test e = q) := by
  by_cases h : ∃ d ∈ q, test d = true
  · have hlt := List.findIdx_lt_length.2 h
    exact .inl ⟨_, _, List.getElem?_eq_getElem hlt, List.findIdx_getElem, rfl⟩
  · have hall : ∀ d ∈ q, test d = false := fun d hd => by
      by_contra hn
      exact h ⟨d, hd, by simpa using hn⟩
    refine .inr ⟨hall, ?_⟩
    rw [replaceFirst, List.findIdx_eq_length.2 hall, List.set_eq_of_length_le le_rfl]

theorem newEntry_sound (l : Station) {item : Item} {value : Option Nat} (o : Originator) (h : item = .poll → value = none) :
    (newEntry l item value o).Sound := ⟨Nat.zero_le _, nofun, nofun, h⟩

theorem newEntry_waiting (l : Station) (item : Item) (value : Option Nat) (o : Originator) :
    (newEntry l item value o).waiting = true := rfl

end

/-! ## Work on one queue -/

/-- A queue after work on it: it is sound where it was, and each entry in flight was so before, with its even half as it was. -/
structure QueueWorks (q q' : List CommandEntry) : Prop where
  sound : QueueSound q → QueueSound q'
  inFlight : ∀ e ∈ q', e.waiting = false → ∃ d ∈ q, d.waiting = false ∧ d.evenDone = e.evenDone

namespace QueueWorks

section
variable {q q' : List CommandEntry} {l : Station} {item : Item} {value : Option Nat}

theorem refl (q : List CommandEntry) : QueueWorks q q := ⟨id, fun e he hw => ⟨e, he, hw, rfl⟩⟩

theorem trans {q'' : List CommandEntry} (h : QueueWorks q q') (k : QueueWorks q' q'') : QueueWorks q q'' where
  sound hq := k.sound (h.sound hq)
  inFlight e he hw := by
    obtain ⟨d, hd, hdw, hde⟩ := k.inFlight e he hw
    obtain ⟨c, hc, hcw, hcd⟩ := h.inFlight d hd hdw
    exact ⟨c, hc, hcw, hcd.trans hde⟩

theorem of_sublist (sub : q'.Sublist q) : QueueWorks q q' :=
  ⟨fun h => h.of_sublist sub, fun e he hw => ⟨e, sub.subset he, hw, rfl⟩⟩

/-- A new entry takes the place of the waiting entry of its key (R120). -/
theorem replace {i : Nat} {old : CommandEntry} (hi : q[i]? = some old) (hw : waitingKey l item old = true) (o : Originator)
    (hv : item = .poll → value = none) : QueueWorks q (q.set i (newEntry l item value o)) where
  sound h := by
    refine h.set hi (newEntry_sound l o hv) (fun _ j d hj hd hsame => hj ?_) nofun
    have hwd : waitingKey l item d = true := waitingKey_of_same hsame
    rw [← (find_of_unique h.pairwise hi hw).2, (find_of_unique h.pairwise hd hwd).2]
  inFlight e he hf := by
    rcases List.mem_or_eq_of_mem_set he with he | rfl
    · exact ⟨e, he, hf, rfl⟩
    · cases hf

/-- A new entry at the end, where no entry of its key waits and there is room (R120, R121). -/
theorem append (h : ∀ d ∈ q, waitingKey l item d = false) (room : q.length < 16) (o : Originator)
    (hv : item = .poll → value = none) : QueueWorks q (q ++ [newEntry l item value o]) where
  sound := fun ⟨hlength, hpairs, hone, hentries⟩ => by
    refine ⟨by simp; omega, ?_, by simpa [newEntry_waiting] using hone, fun d hd => ?_⟩
    · rw [List.pairwise_append]
      refine ⟨hpairs, List.pairwise_singleton _ _, fun d hd e he hsame => ?_⟩
      rw [List.mem_singleton.1 he] at hsame
      exact absurd (waitingKey_of_same hsame) (by simpa [newEntry] using h d hd)
    · rcases List.mem_append.1 hd with hd | hd
      · exact hentries d hd
      · rw [List.mem_singleton.1 hd]; exact newEntry_sound l o hv
  inFlight e he hf := by
    rcases List.mem_append.1 he with he | he
    · exact ⟨e, he, hf, rfl⟩
    · rw [List.mem_singleton.1 he] at hf; cases hf

/-- A binding change marks an entry in flight whose release it has reported (R127). -/
theorem markReported (q : List CommandEntry) (ov : Override) (l : Station) : QueueWorks q (q.map (markReported ov l)) where
  sound := fun ⟨hlength, hpairs, hone, hentries⟩ => by
    have hmark : ∀ e, (Machine.markReported ov l e).item = e.item ∧ (Machine.markReported ov l e).attempts = e.attempts
        ∧ (Machine.markReported ov l e).evenDone = e.evenDone ∧ (Machine.markReported ov l e).evenStatus = e.evenStatus
        ∧ (Machine.markReported ov l e).value = e.value := fun e => by
      unfold Machine.markReported; split <;> exact ⟨rfl, rfl, rfl, rfl, rfl⟩
    refine ⟨by rwa [List.length_map], ?_, ?_, fun e he => ?_⟩
    · rw [List.pairwise_map]
      refine hpairs.imp fun {a b} hab => ?_
      rw [notSameWaiting, markReported_waiting, markReported_waiting, markReported_index, markReported_index, (hmark a).1,
        (hmark b).1]
      exact hab
    · rw [List.countP_map]
      simpa [Function.comp_def, markReported_waiting] using hone
    · obtain ⟨d, hd, rfl⟩ := List.mem_map.1 he
      obtain ⟨hitem, hattempts, hdone, hstatus, hvalue⟩ := hmark d
      rw [CommandEntry.Sound, markReported_waiting, hitem, hattempts, hdone, hstatus, hvalue]
      exact hentries d hd
  inFlight e he hf := by
    obtain ⟨d, hd, rfl⟩ := List.mem_map.1 he
    refine ⟨d, hd, by rwa [markReported_waiting] at hf, ?_⟩
    unfold Machine.markReported; split <;> rfl

end

end QueueWorks

end Sys2Proof.Machine
end

section
namespace Sys2Proof.Machine

/-! ## Queues whose entry in flight has been dealt with -/

/-- An entry in flight has its even half done: no frame of it is on the line. -/
def Settled (q : List CommandEntry) : Prop := ∀ e ∈ q, e.waiting = false → e.evenDone = true

theorem Settled.works {q q' : List CommandEntry} (h : Settled q) (k : QueueWorks q q') : Settled q' := fun e he hw => by
  obtain ⟨d, hd, hdw, hde⟩ := k.inFlight e he hw
  exact hde ▸ h d hd hdw

section
variable {q : List CommandEntry} {e w : CommandEntry}

/-- The entry in flight replaced by one that waits, apart from all others, or whose even half is done. -/
theorem replaceInFlight_settled (hq : QueueSound q) (he : e.Sound) (apart : e.waiting = true → ∀ d ∈ q, notSameWaiting d e)
    (done : e.waiting = false → e.evenDone = true) :
    QueueSound (replaceFirst q (fun d => !d.waiting) e) ∧ Settled (replaceFirst q (fun d => !d.waiting) e) := by
  rcases replaceFirst_cases q (fun d => !d.waiting) e with ⟨i, old, hi, hold, h⟩ | ⟨hall, h⟩ <;> rw [h]
  · have hold : old.waiting = false := by simpa using hold
    refine ⟨hq.set hi he (fun hw j d _ hd => apart hw d (List.mem_of_getElem? hd)) fun _ => .inl hold, fun d hd hw => ?_⟩
    obtain ⟨j, hj⟩ := List.mem_iff_getElem?.1 hd
    rw [List.getElem?_set] at hj
    split at hj
    · split at hj
      · cases hj; exact done hw
      · cases hj
    · rename_i hij
      exact absurd (hq.inFlight_unique hi hold hj hw) hij
  · exact ⟨hq, fun d hd hw => by simpa [hw] using hall d hd⟩

/-- The entry in flight removed. -/
theorem eraseInFlight_settled (hq : QueueSound q) :
    QueueSound (q.eraseIdx (q.findIdx fun d => !d.waiting)) ∧ Settled (q.eraseIdx (q.findIdx fun d => !d.waiting)) := by
  refine ⟨hq.of_sublist (List.eraseIdx_sublist ..), fun d hd hw => ?_⟩
  obtain ⟨j, hj, hd⟩ := List.mem_eraseIdx_iff_getElem?.1 hd
  exact absurd (hq.findIdx_inFlight hd hw).symm hj

/-- A waiting entry taken out of a sound queue is apart from those that stay. -/
theorem notSameWaiting_of_mem_erase (hq : QueueSound q) (hw : w ∈ q) {d : CommandEntry} (hd : d ∈ q.erase w) :
    notSameWaiting d w := by
  have hpairs : (w :: q.erase w).Pairwise notSameWaiting :=
    hq.pairwise.perm (List.perm_cons_erase hw) fun h => notSameWaiting_comm h
  exact notSameWaiting_comm ((List.pairwise_cons.1 hpairs).1 d hd)

theorem CommandEntry.Sound.backToWaiting (h : e.Sound) : e.backToWaiting.Sound := by
  obtain ⟨hattempts, -, -, hvalue⟩ := h
  exact ⟨hattempts, nofun, nofun, hvalue⟩

theorem CommandEntry.Sound.evenAcknowledged (h : e.Sound) (hw : e.waiting = false) (status : StatusSet) :
    (e.evenAcknowledged status).Sound := by
  obtain ⟨-, -, -, hvalue⟩ := h
  exact ⟨Nat.zero_le _, fun _ => hw, fun _ => rfl, hvalue⟩

end

/-! ## Results at the queue of a trunk -/

/-- Between the two states only queues have changed on the trunks, and of these only that of one trunk, which is sound and holds
no entry with a frame on the line. -/
structure Settles (t : TrunkId) (s u : State) : Prop where
  trunk : ∀ r, u.trunk r = { s.trunk r with queue := u.queue r }
  other : ∀ r, r ≠ t → u.queue r = s.queue r
  sound : QueueSound (u.queue t)
  settled : Settled (u.queue t)

namespace Settles

section
variable {s u v : State} {t : TrunkId} {e : CommandEntry}

theorem setQueue {q : List CommandEntry} (h : QueueSound q ∧ Settled q) : Settles t s (s.setQueue t q) where
  trunk r := by by_cases hr : r = t <;> simp [hr, State.queue]
  other r hr := by simp [hr]
  sound := by simpa using h.1
  settled := by simpa using h.2

theorem of_trunks (h : Settles t s u) (k : ∀ r, v.trunk r = u.trunk r) : Settles t s v where
  trunk r := by rw [State.queue, k, h.trunk]
  other r hr := by rw [State.queue, k]; exact h.other r hr
  sound := by rw [State.queue, k]; exact h.sound
  settled := by rw [State.queue, k]; exact h.settled

theorem of_start (h : Settles t v u) (k : ∀ r, v.trunk r = s.trunk r) : Settles t s u where
  trunk r := by rw [h.trunk, k]
  other r hr := by rw [h.other r hr, State.queue, k]; rfl
  sound := h.sound
  settled := h.settled

theorem deliver (h : Settles t s u) (e : CommandEntry) (o : CommandEnd) : Settles t s (u.deliver e o) := h.of_trunks (by simp)

theorem displaced (h : Settles t s u) (e : CommandEntry) (o : Originator) : Settles t s (u.displaced e o) := by
  unfold State.displaced
  split
  · exact h
  · exact h.deliver e _

theorem endInFlight (hq : QueueSound (s.queue t)) (e : CommandEntry) (o : CommandEnd) : Settles t s (s.endInFlight t e o) :=
  (setQueue (eraseInFlight_settled hq)).deliver e o

theorem setInFlight (hq : QueueSound (s.queue t)) (he : e.Sound)
    (apart : e.waiting = true → ∀ d ∈ s.queue t, notSameWaiting d e) (done : e.waiting = false → e.evenDone = true) :
    Settles t s (s.setInFlight t e) := setQueue (replaceInFlight_settled hq he apart done)

theorem waitAgain (hq : QueueSound (s.queue t)) (he : e.Sound) : Settles t s (s.waitAgain t e) := by
  unfold State.waitAgain
  split
  · rename_i w hw
    have hmem := List.mem_of_find?_eq_some hw
    have hwaits := (waitingKey_iff.1 (List.find?_some hw)).1
    refine (setQueue (replaceInFlight_settled (hq.of_sublist List.erase_sublist) (hq.entry hmem)
      (fun _ d hd => notSameWaiting_of_mem_erase hq hmem hd) fun hf => ?_)).displaced e _
    rw [hwaits] at hf; cases hf
  · rename_i hnone
    refine setInFlight hq he.backToWaiting (fun _ d hd hsame => ?_) nofun
    exact List.find?_eq_none.1 hnone d hd (waitingKey_of_same (e := e.backToWaiting) hsame)

theorem chargeMiss (hq : QueueSound (s.queue t)) (he : e.Sound) : Settles t s (s.chargeMiss t e) := by
  obtain ⟨hattempts, hdone, hstatus, hvalue⟩ := he
  unfold State.chargeMiss
  dsimp only
  split
  · exact endInFlight hq e _
  · rename_i hfew
    have he1 : CommandEntry.Sound { e with attempts := e.attempts + 1 } := ⟨by simp at hfew ⊢; omega, hdone, hstatus, hvalue⟩
    split
    · rename_i heven
      refine setInFlight hq he1 (fun hw => ?_) fun _ => heven
      exact absurd (hw.symm.trans (hdone heven)) nofun
    · exact waitAgain hq he1

theorem commandTaken (hq : QueueSound (s.queue t)) (he : e.Sound) (hf : e.waiting = false) (r : Option CommandReply) :
    Settles t s (s.commandTaken t e r) := by
  unfold State.commandTaken
  split
  · exact chargeMiss hq he
  · rename_i r
    split
    · split
      · refine setInFlight hq (he.evenAcknowledged hf r.status) (fun hw => ?_) fun _ => rfl
        exact absurd (hw.symm.trans hf) nofun
      · exact endInFlight hq e _
    · have hstore : ∀ k, (s.storePoll e (e.bothStatus r.status)).trunk k = s.trunk k := fun k => by
        unfold State.storePoll
        split <;> [split; skip; skip] <;> simp
      have hq' : QueueSound ((s.storePoll e (e.bothStatus r.status)).queue t) := by rw [State.queue, hstore]; exact hq
      exact (endInFlight hq' e _).of_start hstore

/-- The entry in flight of a sound queue is sound. -/
theorem inFlight_sound (hq : QueueSound (s.queue t)) (h : s.inFlight t = some e) : e.Sound ∧ e.waiting = false :=
  ⟨hq.entry (List.mem_of_find?_eq_some h), by simpa using List.find?_some h⟩

theorem of_none (hq : QueueSound (s.queue t)) (h : s.inFlight t = none) : Settles t s s where
  trunk _ := rfl
  other _ _ := rfl
  sound := hq
  settled e he hw := absurd (by simpa using hw) (List.find?_eq_none.1 h e he)

theorem commandResult (hq : QueueSound (s.queue t)) (r : Option CommandReply) : Settles t s (s.commandResult t r) := by
  unfold State.commandResult
  split
  · rename_i h; exact of_none hq h
  · rename_i e h
    obtain ⟨he, hf⟩ := inFlight_sound hq h
    split
    · exact endInFlight hq e _
    · exact commandTaken hq he hf r

theorem abandonCommand (hq : QueueSound (s.queue t)) : Settles t s (s.abandonCommand t) := by
  unfold State.abandonCommand
  split
  · rename_i h; exact of_none hq h
  · rename_i e h
    split
    · exact endInFlight hq e _
    · exact waitAgain hq (inFlight_sound hq h).1

end

end Settles

end Sys2Proof.Machine
end

section
namespace Sys2Proof.Machine

/-! ## Changes that leave the trunks alone but for work on their queues -/

/-- A trunk after work on its queue. -/
def Trunk.Works (x y : Trunk) : Prop := y = { x with queue := y.queue } ∧ QueueWorks x.queue y.queue

/-- Both trunks after work on their queues. -/
def LineWork (s t : State) : Prop := ∀ r, (s.trunk r).Works (t.trunk r)

namespace LineWork

section
variable {s t u : State}

theorem of_trunks (h : ∀ r, t.trunk r = s.trunk r) : LineWork s t := fun r => by rw [h]; exact ⟨rfl, .refl _⟩

theorem refl (s : State) : LineWork s s := of_trunks fun _ => rfl

theorem trans (h : LineWork s t) (k : LineWork t u) : LineWork s u := fun r => by
  obtain ⟨hline, hqueue⟩ := h r
  obtain ⟨kline, kqueue⟩ := k r
  exact ⟨kline.trans (by rw [hline]), hqueue.trans kqueue⟩

/-- Work, and then what no trunk shows. -/
theorem then_trunks (h : LineWork s t) (k : ∀ r, u.trunk r = t.trunk r) : LineWork s u := h.trans (of_trunks k)

theorem foldl {α : Type} {f : State → α → State} (h : ∀ s x, LineWork s (f s x)) (xs : List α) (s : State) :
    LineWork s (xs.foldl f s) := by
  induction xs generalizing s with
  | nil => exact .refl s
  | cons x xs ih => exact (h s x).trans (ih (f s x))

theorem setQueue {tr : TrunkId} {q : List CommandEntry} (h : QueueWorks (s.queue tr) q) : LineWork s (s.setQueue tr q) :=
  fun r => by
    by_cases hr : r = tr
    · subst hr; simpa [Trunk.Works] using show QueueWorks (s.trunk r).queue q from h
    · simpa [hr] using refl s r

/-! ### Outcomes and queues (R120, R121, R129, R131) -/

theorem deliver (s : State) (e : CommandEntry) (o : CommandEnd) : LineWork s (s.deliver e o) := of_trunks (by simp)

theorem displaced (s : State) (e : CommandEntry) (o : Originator) : LineWork s (s.displaced e o) := by
  unfold State.displaced
  split
  · exact .refl s
  · exact .deliver s e _

section
variable {tr : TrunkId} {l : Station} {item : Item} {value : Option Nat} {o : Originator}

theorem offerCommand (hv : item = .poll → value = none) (h : s.offerCommand tr l item value o = some t) : LineWork s t := by
  rcases s.offerCommand_cases tr l item value o with ⟨i, old, hi, hw, k⟩ | ⟨hn, ⟨hroom, k⟩ | ⟨-, k⟩⟩ <;> rw [k] at h
  · cases h; exact (setQueue (.replace hi hw o hv)).trans (.displaced _ _ _)
  · cases h; exact setQueue (.append hn hroom o hv)
  · cases h

theorem offerIfRoom (s : State) (tr : TrunkId) (l : Station) (o : Originator) (hv : item = .poll → value = none) :
    LineWork s (s.offerIfRoom tr l item value o) := by
  unfold State.offerIfRoom
  cases h : s.offerCommand tr l item value o with
  | none => exact .refl s
  | some u => exact offerCommand hv h

end

theorem dropEntry (s : State) (tr : TrunkId) (e : CommandEntry) : LineWork s (s.dropEntry tr e) :=
  (setQueue (.of_sublist List.erase_sublist)).trans (.deliver _ e _)

theorem dropWaiting (s : State) (tr : TrunkId) (l : Station) : LineWork s (s.dropWaiting tr l) :=
  .foldl (fun s e => .dropEntry s tr e) _ s

theorem reportRelease (s : State) (l : Station) (ov : Override) : LineWork s (s.reportRelease l ov) :=
  of_trunks (by simp [State.reportRelease, State.addOutcome])

theorem dropLimiterCap (s : State) (tr : TrunkId) (l : Station) : LineWork s (s.dropLimiterCap tr l) := by
  unfold State.dropLimiterCap
  split
  · exact .dropEntry s tr _
  · exact .refl s

/-! ### Results at the Station Table, roll-calls (R7 to R17, R135, R137) -/

theorem offerPoll (s : State) (l : Station) : LineWork s (s.offerPoll l) := .offerIfRoom s _ l _ fun _ => rfl

theorem pollIfAttention (s : State) (l : Station) (status : StatusSet) : LineWork s (s.pollIfAttention l status) := by
  unfold State.pollIfAttention
  split
  · exact .offerPoll s l
  · exact .refl s

theorem enterLost (s : State) (l : Station) : LineWork s (s.enterLost l) :=
  (LineWork.dropWaiting s (s.map l).trunk l).then_trunks (by simp [State.enterLost])

theorem tableResult (s : State) (stamp : Stamp) (r : StationResult) : LineWork s (s.tableResult stamp r) := by
  unfold State.tableResult
  split
  · cases r with
    | good r status =>
      refine LineWork.trans (of_trunks fun k => ?_) (.pollIfAttention _ _ status)
      split <;> simp
    | sensorFault status => exact (of_trunks (by simp)).trans (.pollIfAttention _ _ status)
    | miss =>
      dsimp only [State.stationMiss]
      split
      · exact (of_trunks (by simp)).trans (.enterLost _ _)
      · exact of_trunks (by simp)
  · exact .refl s

theorem boundAnswers (answer : Nat → Answer) (tr : TrunkId) (s : State) (l : Station) :
    LineWork s (State.boundAnswers answer tr s l) := by
  unfold State.boundAnswers
  dsimp only
  split
  · split
    · exact (of_trunks (by simp)).trans (.offerPoll _ l)
    · exact of_trunks (by simp)
  · exact .refl s

theorem setCandidates (s : State) (cs : List Candidate) (b : Bool) : LineWork s { s with candidates := cs, overflow := b } :=
  of_trunks fun r => by cases r <;> rfl

theorem removeCandidate (s : State) (t : TrunkId) (a : Nat) : LineWork s (s.removeCandidate t a) := .setCandidates s _ _

theorem raiseCandidate (s : State) : LineWork s s.raiseCandidate := of_trunks fun r => by cases r <;> rfl

theorem admissionAnswer (answer : Nat → Answer) (tr : TrunkId) (s : State) (a : Nat) :
    LineWork s (State.admissionAnswer answer tr s a) := by
  unfold State.admissionAnswer
  split
  · exact .refl s
  · split
    · split
      · exact (setCandidates s _ _).trans (.raiseCandidate _)
      · exact .setCandidates s _ _
    · split
      · split
        · exact (setCandidates s _ _).trans (.raiseCandidate _)
        · split
          · exact .refl s
          · exact (setCandidates s _ _).trans (.raiseCandidate _)
      · exact .refl s

theorem rollcallAnswers (s : State) (tr : TrunkId) (answer : Nat → Answer) : LineWork s (s.rollcallAnswers tr answer) :=
  (foldl (.boundAnswers answer tr) stations s).trans (.foldl (.admissionAnswer answer tr) addresses _)

/-! ### Ports that leave LIVE (R82, R167, R170) -/

theorem releaseOverride (s : State) (l : Station) (ov : Override) : LineWork s (s.releaseOverride l ov) := by
  have offer : ∀ u, LineWork s u →
      LineWork s ((u.modifyImage l fun x => { x with override := none }).offerIfRoom (s.map l).trunk l ov.item none .module) :=
    fun u h => (h.then_trunks (by simp)).trans (.offerIfRoom _ _ l _ fun _ => rfl)
  unfold State.releaseOverride
  refine offer _ ?_
  split
  · exact .dropEntry s _ _
  · exact .reportRelease s l ov

theorem releaseOwned (s : State) (p : PortId) : LineWork s (s.releaseOwned p) := by
  refine foldl (f := State.releaseIfOwned p) (fun u l => ?_) stations s
  unfold State.releaseIfOwned
  split
  · split
    · exact .releaseOverride u l _
    · exact .refl u
  · exact .refl u

theorem leaveLive (s : State) (p : PortId) : LineWork s (s.leaveLive p) := (of_trunks (by simp)).trans (.releaseOwned _ p)

theorem fail (s : State) (p : PortId) : LineWork s (s.fail p) := by
  have failed : LineWork s (s.modifyPort p (·.failed s.longWindow)) := of_trunks (by simp)
  unfold State.fail
  dsimp only
  split
  · exact (failed.trans (.leaveLive _ p)).then_trunks (by simp)
  · exact failed.then_trunks (by simp)

theorem helloTaken (s : State) (p : PortId) : LineWork s (s.helloTaken p) := by
  unfold State.helloTaken
  split
  case h_4 => exact (of_trunks (by simp)).trans (.leaveLive _ p)
  all_goals exact of_trunks (by simp)

theorem refreshTaken (s : State) (p : PortId) : LineWork s (s.refreshTaken p) := by
  have live : LineWork s (s.enterLive p) := of_trunks (by simp [State.enterLive])
  unfold State.refreshTaken
  split
  · exact live
  · exact live
  · split
    · split
      · exact .fail s p
      · exact live
    · exact live
  · exact .refl s
  · exact .refl s

/-! ### Binding changes (R21) -/

theorem releaseByBinding (s : State) (tr : TrunkId) (l : Station) : LineWork s (s.releaseByBinding tr l) := by
  rcases s.releaseByBinding_cases tr l with ⟨-, h⟩ | ⟨ov, -, ⟨-, h⟩ | ⟨-, h⟩⟩ <;> rw [h]
  · exact .refl s
  · exact of_trunks (by simp)
  · refine LineWork.trans ((of_trunks (by simp)).trans (setQueue ?_)) (.reportRelease _ l ov)
    simpa using QueueWorks.markReported (s.queue tr) ov l

theorem bindingChange (s : State) (l : Station) (m : MapPart) : LineWork s (s.bindingChange l m) := by
  have detached : LineWork s (s.detached l m) :=
    ((of_trunks fun r => by cases r <;> rfl).trans (.releaseByBinding (s.remapped l m) _ l)).trans (.dropWaiting _ _ l)
  rw [State.bindingChange_eq]
  split
  · exact detached.then_trunks (by simp)
  · exact detached.then_trunks (by simp)

theorem removeBoundCandidates (s : State) (m : MapPart) : LineWork s (s.removeBoundCandidates m) := by
  unfold State.removeBoundCandidates
  dsimp only
  split
  · exact .setCandidates s _ _
  · exact .refl s

theorem setMap (s : State) (l : Station) (m : MapPart) : LineWork s (s.setMap l m) := of_trunks fun r => by cases r <;> rfl

theorem writeMap (s : State) (l : Station) (m : MapPart) : LineWork s (s.writeMap l m) := by
  unfold State.writeMap
  refine LineWork.trans ?_ (.removeBoundCandidates _ m)
  split
  · exact .bindingChange s l m
  · exact .setMap s l m

theorem carryWriteMap (s : State) (index flags trunk address qc dpmin mark : Nat) :
    LineWork s (s.carryWriteMap index flags trunk address qc dpmin mark).1 := by
  unfold State.carryWriteMap
  split
  · dsimp only
    split
    · exact .refl s
    · split
      · exact .refl s
      · exact .writeMap s _ _
  · exact .refl s

theorem carryAdmit (s : State) (trunk address index twin qc : Nat) : LineWork s (s.carryAdmit trunk address index twin qc).1 := by
  unfold State.carryAdmit
  split
  · dsimp only
    split_ifs
    case neg => exact (LineWork.bindingChange s _ _).trans (.removeBoundCandidates _ _)
    all_goals exact .refl s
  · exact .refl s

/-! ### Overrides and the limiter (R65 to R82) -/

theorem overrideItem_ne_poll {code : Nat} {item : Item} (h : overrideItem code = some item) : item ≠ .poll := by
  rintro rfl
  unfold overrideItem at h
  split at h <;> cases h

theorem placeOverride (s : State) (l : Station) (p : PortId) {item : Item} (h : item ≠ .poll) (value : Option Nat) :
    LineWork s (s.placeOverride l p item value) :=
  ((LineWork.dropLimiterCap s (s.map l).trunk l).then_trunks (by simp [State.setOverride])).trans
    (.offerIfRoom _ _ l _ fun k => absurd k h)

theorem replaceOverride (s : State) (l : Station) (p : PortId) (old : Item) {item : Item} (h : item ≠ .poll)
    (value : Option Nat) : LineWork s (s.replaceOverride l p old item value) := by
  have offer : ∀ u, LineWork u (u.offerIfRoom (s.map l).trunk l item value (.port p)) := fun u =>
    .offerIfRoom u _ l _ fun k => absurd k h
  have field : ∀ u r, (State.setOverride u l p item value).trunk r = u.trunk r := fun u r => by simp [State.setOverride]
  unfold State.replaceOverride
  dsimp only
  split
  · exact (offer s).then_trunks (field _)
  · exact (LineWork.trans (.offerIfRoom s _ l _ fun _ => rfl) (offer _)).then_trunks (field _)

theorem carryOverride (s : State) (p : PortId) (index item value : Nat) : LineWork s (s.carryOverride p index item value).1 := by
  unfold State.carryOverride
  split
  · exact .refl s
  · split
    · exact .refl s
    · split
      · exact .refl s
      · rename_i hitem
        have hpoll := overrideItem_ne_poll hitem
        split
        · exact .refl s
        · split
          · exact .refl s
          · dsimp only [answerOk]
            split
            · exact .placeOverride s _ p hpoll _
            · exact .replaceOverride s _ p _ hpoll _

theorem carryRelease (s : State) (p : PortId) (index : Nat) : LineWork s (s.carryRelease p index).1 := by
  unfold State.carryRelease
  split
  · exact .refl s
  · split
    · exact .refl s
    · dsimp only
      split
      · exact .refl s
      · split
        · exact .refl s
        · exact (of_trunks (by simp)).trans (.offerIfRoom _ _ _ _ fun _ => rfl)

theorem carryCancel (s : State) (p : PortId) (index item : Nat) : LineWork s (s.carryCancel p index item).1 := by
  unfold State.carryCancel
  split
  · exact .refl s
  · split
    · exact .refl s
    · split
      · exact .refl s
      · dsimp only
        split
        · split
          · exact .refl s
          · exact .dropEntry s _ _
        · split <;> exact .refl s

theorem evaluate (s : State) : LineWork s s.evaluate := by
  refine foldl (f := State.evaluateEntry) (fun u l => ?_) stations s
  unfold State.evaluateEntry
  split
  · split
    · unfold State.carryOut
      split
      · exact of_trunks (by simp)
      · split
        · rename_i h
          exact (offerCommand (fun k => by cases k) h).then_trunks (by simp)
        · exact of_trunks (by simp)
    · exact .refl u
  · exact .refl u

theorem fallbackRelease (s : State) : LineWork s s.fallbackRelease := by
  have clear : ∀ u : State, LineWork u { u with limits := Vector.replicate 120 LimitEntry.cleared } := fun u =>
    of_trunks fun r => by cases r <;> rfl
  refine (foldl (f := State.releaseCap) (fun u l => ?_) stations s).trans (clear _)
  unfold State.releaseCap
  split
  · exact .offerIfRoom u _ l _ fun _ => rfl
  · exact .offerIfRoom u _ l _ fun _ => rfl
  · exact .refl u
  · exact .refl u

theorem publish (s : State) (r : Record) : LineWork s (s.publish r) := of_trunks fun k => by cases k <;> rfl

theorem dispatchOnce (s : State) : LineWork s s.dispatchOnce := by
  unfold State.dispatchOnce
  split
  · exact .refl s
  · exact LineWork.trans (of_trunks fun k => by cases k <;> rfl) (.publish _ _)
  · refine LineWork.trans ?_ (.publish _ _)
    split
    · exact of_trunks fun k => by cases k <;> rfl
    · exact LineWork.trans (of_trunks fun k => by cases k <;> rfl) (.fallbackRelease _)

/-! ### The settings (R14, R37) -/

theorem rejudge (s : State) : LineWork s s.rejudge := by
  have lives : LineWork s (stations.foldl State.rejudgeLive s) := foldl (fun u l => by
    unfold State.rejudgeLive
    split
    · exact of_trunks (by simp [State.enterStale])
    · exact .refl u) stations s
  refine lives.trans (foldl (f := State.rejudgeStale) (fun u l => ?_) stations _)
  unfold State.rejudgeStale
  split
  · exact .enterLost u l
  · exact .refl u

theorem carryWriteParam (s : State) (identifier value : Nat) : LineWork s (s.carryWriteParam identifier value).1 := by
  have params : ∀ x, LineWork s (s.setParams x) := fun x => of_trunks (by simp)
  have band : ∀ x, LineWork s (s.setParams x).clampSetpoint := fun x => of_trunks fun r => by cases r <;> rfl
  unfold State.carryWriteParam
  split
  · dsimp only [answerOk, State.afterParam]
    split
    · exact (params _).trans (.rejudge _)
    · exact (params _).trans (.rejudge _)
    · exact band _
    · exact band _
    · exact params _
  · exact .refl s

theorem carryWriteSlot (s : State) (trunk entry rule index length : Nat) :
    LineWork s (s.carryWriteSlot trunk entry rule index length).1 := by
  unfold State.carryWriteSlot
  split
  · split
    · exact .refl s
    · exact .refl s
    · exact of_trunks (by simp [answerOk])
  · exact .refl s

/-! ### Requests -/

theorem take {p : PortId} {tag code : Nat} {gate : State → PortId → Option ResponseCode} {restarts : Bool}
    {f : State → Carried} (h : ∀ u, LineWork u (f u).1) : LineWork s (s.take p tag code gate restarts f) :=
  State.take_keeps (P := LineWork s) (fun _ _ _ _ h => h.then_trunks (by simp)) (fun u _ hu => hu.trans (h u)) (.refl s)

theorem nextResponse (s : State) (p : PortId) : LineWork s (s.nextResponse p) :=
  of_trunks (by simp [State.nextResponse_eq])

end

end LineWork

end Sys2Proof.Machine
end

/-! # Proofs: the laws of the queues and the trunks -/

section
namespace Sys2Proof.Machine

/-! ## The laws of a trunk with its queue -/

/-- The queue and the trunk are sound. -/
def Trunk.Whole (x : Trunk) : Prop := QueueSound x.queue ∧ x.Sound

/-- A rate that a trunk may run at (R84). -/
abbrev RateSound (n : Nat) : Prop := n = 9600 ∨ n = 19200 ∨ n = 38400 ∨ n = 57600

/-- A trunk whose exchange has ended and whose STOPPING or halt is still to be judged (R93, R100). -/
structure Trunk.Ended (x : Trunk) : Prop where
  exchange : x.exchange = none
  state : x.state = .running ∨ x.state = .stopping
  enabled : x.txEnabled = true
  fault : x.fault = none
  rate : RateSound x.rate
  queue : QueueSound x.queue
  settled : Settled x.queue

namespace Trunk

section
variable {x y : Trunk} {e e' : Exchange}

theorem Whole.rateSound (h : x.Whole) : RateSound x.rate := by
  obtain ⟨-, -, -, -, -, -, hrate, -⟩ := h
  exact hrate

theorem Whole.works (h : x.Whole) (k : x.Works y) : y.Whole := by
  obtain ⟨hq, hrest, hhalted, hruns, hstopping, htx, hrate, hflight⟩ := h
  obtain ⟨hline, hqueue⟩ := k
  generalize y.queue = q at hline hqueue
  subst hline
  refine ⟨hqueue.sound hq, hrest, hhalted, hruns, hstopping, htx, hrate, fun e he hw => ?_⟩
  obtain ⟨d, hd, hdw, hde⟩ := hqueue.inFlight e he hw
  exact (hflight d hd hdw).imp_right fun h => hde ▸ h

theorem Ended.works (h : x.Ended) (k : x.Works y) : y.Ended := by
  obtain ⟨hexchange, hstate, htx, hfault, hrate, hq, hsettled⟩ := h
  obtain ⟨hline, hqueue⟩ := k
  generalize y.queue = q at hline hqueue
  subst hline
  exact ⟨hexchange, hstate, htx, hfault, hrate, hqueue.sound hq, hsettled.works hqueue⟩

/-- With no command's frame on the line, an entry in flight has its even half done. -/
theorem Whole.settled (h : x.Whole) (hx : x.sendsCommand = false) : Settled x.queue := by
  obtain ⟨-, -, -, -, -, -, -, hflight⟩ := h
  exact fun e he hw => (hflight e he hw).resolve_left (by simp [hx])

theorem Whole.ended (h : x.Whole) (hx : x.exchange = some e) {q : List CommandEntry} (hq : QueueSound q) (hs : Settled q) :
    Ended { x with exchange := none, queue := q } := by
  obtain ⟨-, hrest, -, hruns, -, -, hrate, -⟩ := h
  have hstate : x.state = .running ∨ x.state = .stopping := by
    cases hs : x.state with
    | running => exact .inl rfl
    | stopping => exact .inr rfl
    | stopped => rw [(hrest (.inl hs)).2] at hx; cases hx
    | halted => rw [(hrest (.inr hs)).2] at hx; cases hx
  exact ⟨rfl, hstate, (hruns hstate).1, (hruns hstate).2, hrate, hq, hs⟩

theorem Ended.whole (h : x.Ended) (hx : x.state ≠ .stopping) : x.Whole := by
  obtain ⟨hexchange, hstate, htx, hfault, hrate, hq, hsettled⟩ := h
  have hruns : x.state = .running := hstate.resolve_right hx
  exact ⟨hq, fun k => by simp [hruns] at k, fun k => by simp [hruns] at k, fun _ => ⟨htx, hfault⟩, fun k => absurd k hx,
    fun k => by simp [htx] at k, hrate, fun e he hw => .inr (hsettled e he hw)⟩

/-- A STOPPED trunk without an exchange is sound, whatever the fault in its record (R93, R96). -/
theorem whole_stopped (hstate : x.state = .stopped) (hslot : x.slot = none) (hexchange : x.exchange = none)
    (htx : x.txEnabled = false → x.fault.isSome = true) (hrate : RateSound x.rate) (hq : QueueSound x.queue)
    (hs : Settled x.queue) : x.Whole :=
  ⟨hq, fun _ => ⟨hslot, hexchange⟩, fun k => by simp [hstate] at k, fun k => by simp [hstate] at k,
    fun k => by simp [hstate] at k, htx, hrate, fun e he hw => .inr (hs e he hw)⟩

/-- A halted trunk is sound (R94). -/
theorem whole_halted (x : Trunk) (record : FaultRecord) {q : List CommandEntry} (hrate : RateSound x.rate) (hq : QueueSound q)
    (hs : Settled q) :
    Whole { x with
      txEnabled := false, fault := some record, state := .halted, slot := none, exchange := none, queue := q } :=
  ⟨hq, fun _ => ⟨rfl, rfl⟩, fun _ => ⟨rfl, rfl⟩, by simp, nofun, fun _ => rfl, hrate, fun e he hw => .inr (hs e he hw)⟩

/-- A trunk that becomes RUNNING is sound (R92, R95). -/
theorem Whole.run (h : x.Whole) (hx : x.exchange = none) {rate : Nat} (hrate : RateSound rate) (pointer : Option EntryIndex) :
    Whole { x.run with rate := rate, pointer := pointer } :=
  ⟨h.1, by simp [Trunk.run], nofun, fun _ => ⟨rfl, rfl⟩, nofun, nofun, hrate,
    fun e he hw => .inr (h.settled (by simp [sendsCommand, hx]) e he hw)⟩

/-- The exchange in flight goes on (R91, R98, R113). -/
theorem Whole.setExchange (h : x.Whole) (hx : x.exchange = some e) (hk : e'.kind = e.kind) :
    Whole { x with exchange := some e' } := by
  obtain ⟨hq, hrest, hhalted, hruns, hstopping, htx, hrate, hflight⟩ := h
  refine ⟨hq, fun k => ?_, hhalted, hruns, fun _ => rfl, htx, hrate, fun d hd hw => (hflight d hd hw).imp_left fun h => ?_⟩
  · rw [(hrest k).2] at hx; cases hx
  · simpa [sendsCommand, hx, hk] using h

/-- An exchange begins on a RUNNING trunk: a command's, or one beside which no command has a frame on the line. -/
theorem Whole.begin (h : x.Whole) (hx : x.state = .running) {q : List CommandEntry} (hq : QueueSound q)
    (hs : Settled q ∨ e.kind.isCommand = true) : Whole { x with exchange := some e, queue := q } := by
  obtain ⟨-, -, -, hruns, -, -, hrate, -⟩ := h
  obtain ⟨htx, hfault⟩ := hruns (.inl hx)
  exact ⟨hq, by simp [hx], by simp [hx], fun _ => ⟨htx, hfault⟩, by simp [hx], by simp [htx], hrate,
    fun d hd hw => (hs.imp (fun h => h d hd hw) id).symm⟩

theorem Whole.setSlot (h : x.Whole) (hx : x.state = .running) (slot : Option Slot) : Whole { x with slot := slot } := by
  obtain ⟨hq, -, hhalted, hruns, hstopping, htx, hrate, hflight⟩ := h
  exact ⟨hq, by simp [hx], hhalted, hruns, hstopping, htx, hrate, hflight⟩

/-- The trunk of a network that is reset (R102, R103, R119). -/
theorem Whole.restarted (h : x.Whole) : x.restarted.Whole := by
  obtain ⟨-, -, hhalted, hruns, -, htx, hrate, -⟩ := h
  have hempty : QueueSound [] := ⟨Nat.zero_le _, List.Pairwise.nil, Nat.zero_le _, nofun⟩
  refine ⟨hempty, fun _ => ⟨rfl, rfl⟩, fun k => hhalted ?_, fun k => hruns ?_, fun k => ?_, htx, hrate, nofun⟩ <;>
    revert k <;> simp only [Trunk.restarted] <;> split <;> simp_all

theorem whole_atReset (running : Bool) {rate : Nat} (h : RateSound rate) : (Trunk.atReset running rate).Whole := by
  refine ⟨⟨Nat.zero_le _, List.Pairwise.nil, Nat.zero_le _, nofun⟩, fun _ => ⟨rfl, rfl⟩, fun k => ?_, fun _ => ⟨rfl, rfl⟩,
    fun k => ?_, nofun, h, nofun⟩ <;> cases running <;> cases k

end

end Trunk

/-! ## Both trunks -/

/-- Both trunks are sound with their queues. -/
def LinesWhole (s : State) : Prop := ∀ r, (s.trunk r).Whole

/-- The exchange of one trunk has ended, and the other trunk is sound. -/
def EndedOn (t : TrunkId) (s : State) : Prop := (s.trunk t).Ended ∧ ∀ r, r ≠ t → (s.trunk r).Whole

section
variable {s u : State} {t : TrunkId} {x : Exchange}

theorem linesWhole_iff (on : s.powered = true) : LinesWhole s ↔ s.QueuesSound ∧ s.TrunksSound :=
  ⟨fun h => ⟨⟨(h .a).1, (h .b).1⟩, fun _ => ⟨(h .a).2, (h .b).2⟩⟩,
    fun ⟨⟨ha, hb⟩, k⟩ r => by
      cases r
      · exact ⟨ha, (k on).1⟩
      · exact ⟨hb, (k on).2⟩⟩

theorem LinesWhole.work (h : LinesWhole s) (k : LineWork s u) : LinesWhole u := fun r => (h r).works (k r)

theorem EndedOn.work (h : EndedOn t s) (k : LineWork s u) : EndedOn t u :=
  ⟨h.1.works (k t), fun r hr => (h.2 r hr).works (k r)⟩

/-- Where one trunk is written, and the other stands as it is or is sound. -/
theorem linesWhole_of (ht : (u.trunk t).Whole) (hr : ∀ r, r ≠ t → (u.trunk r).Whole) : LinesWhole u := fun r => by
  by_cases h : r = t
  · exact h ▸ ht
  · exact hr r h

theorem LinesWhole.setTrunk (h : LinesWhole s) {y : Trunk} (hy : y.Whole) : LinesWhole (s.setTrunk t y) :=
  linesWhole_of (t := t) (by simpa using hy) fun r hr => by simpa [hr] using h r

theorem LinesWhole.raiseAll (h : LinesWhole s) (f : FlagSet) : LinesWhole (s.raiseAll f) := h.work (.of_trunks (by simp))

theorem LinesWhole.await (h : LinesWhole s) (n : Nat) : LinesWhole (s.await n) := h.work (.of_trunks (by simp))

/-! ### Halts and stops (R93 to R97, R101) -/

theorem enterStopped_whole (hexchange : (s.trunk t).exchange = none)
    (htx : (s.trunk t).txEnabled = false → (s.trunk t).fault.isSome = true) (hrate : RateSound (s.trunk t).rate)
    (hq : QueueSound (s.trunk t).queue) (hs : Settled (s.trunk t).queue) (others : ∀ r, r ≠ t → (s.trunk r).Whole) :
    LinesWhole (s.enterStopped t) := by
  refine linesWhole_of (t := t) ?_ fun r hr => by simpa [State.enterStopped, hr] using others r hr
  have : (s.enterStopped t).trunk t = { s.trunk t with state := .stopped, slot := none } := by simp [State.enterStopped]
  rw [this]
  exact Trunk.whole_stopped rfl rfl hexchange htx hrate hq hs

/-- An exchange abandoned leaves a settled queue. -/
theorem State.abandon_spec (hq : QueueSound (s.queue t)) (hs : (s.trunk t).sendsCommand = false → Settled (s.queue t)) :
    ∃ q, QueueSound q ∧ Settled q ∧ (s.abandon t).trunk t = { s.trunk t with exchange := none, queue := q }
      ∧ ∀ r, r ≠ t → (s.abandon t).trunk r = s.trunk r := by
  unfold State.abandon
  split
  · rename_i hx
    have hline : s.trunk t = { s.trunk t with exchange := none, queue := s.queue t } := by rw [← hx]; rfl
    exact ⟨s.queue t, hq, hs (by simp [Trunk.sendsCommand, hx]), hline, fun _ _ => rfl⟩
  · rename_i x hx
    dsimp only
    split
    · have k : Settles t s (s.abandonCommand t) := .abandonCommand hq
      refine ⟨_, k.sound, k.settled, by simp [k.trunk t], fun r hr => ?_⟩
      have := k.trunk r
      rw [k.other r hr] at this
      simp only [State.modifyTrunk_eq, State.trunk_setTrunk, if_neg hr]
      exact this
    · rename_i hk
      exact ⟨s.queue t, hq, hs (by simpa [Trunk.sendsCommand, hx] using hk), by simp [State.queue], fun r hr => by simp [hr]⟩

theorem halt_whole (hq : QueueSound (s.queue t)) (hs : (s.trunk t).sendsCommand = false → Settled (s.queue t))
    (hrate : RateSound (s.trunk t).rate) (others : ∀ r, r ≠ t → (s.trunk r).Whole) (kind : FaultKind)
    (frame : Option FrameKind) : LinesWhole (s.halt t kind frame) := by
  obtain ⟨q, hsound, hsettled, hline, hother⟩ := State.abandon_spec hq hs
  refine linesWhole_of (t := t) ?_ fun r hr => by simpa [State.halt, hr, hother r hr] using others r hr
  have : (s.halt t kind frame).trunk t = { (s.trunk t).faulted
      { kind := kind, at_ := s.clock, entry := (s.trunk t).slot.map (·.entry), frame := frame } with
      state := .halted, slot := none, exchange := none, queue := q } := by
    simp [State.halt, hline, Trunk.faulted]
  rw [this]
  exact Trunk.whole_halted _ _ hrate hsound hsettled

theorem LinesWhole.halt (h : LinesWhole s) (kind : FaultKind) (frame : Option FrameKind) : LinesWhole (s.halt t kind frame) :=
  halt_whole (h t).1 (h t).settled (h t).rateSound (fun r _ => h r) kind frame

/-! ### The end of an exchange (R87 to R93, R99, R100) -/

theorem EndedOn.afterExchange (h : EndedOn t s) (kind : ExchangeKind) (failed : Bool) :
    LinesWhole (s.afterExchange t kind failed) := by
  obtain ⟨ended, others⟩ := h
  unfold State.afterExchange
  split
  · exact halt_whole ended.queue (fun _ => ended.settled) ended.rate others _ _
  · split
    · exact enterStopped_whole ended.exchange (by simp [ended.enabled]) ended.rate ended.queue ended.settled others
    · rename_i hx
      exact linesWhole_of (ended.whole hx) others

/-- The state in which an exchange hands on its result: the time up to its end has passed, and it is no longer in flight. -/
abbrev State.atEnd (s : State) (t : TrunkId) (n : Nat) : State := (s.await n).clearExchange t

theorem State.trunk_atEnd (s : State) (t r : TrunkId) (n : Nat) :
    (s.atEnd t n).trunk r = if r = t then { s.trunk t with exchange := none } else s.trunk r := by
  simp [State.clearExchange]

theorem State.queue_atEnd (s : State) (t r : TrunkId) (n : Nat) : (s.atEnd t n).queue r = s.queue r := by
  rw [State.queue, State.trunk_atEnd]
  split <;> simp_all [State.queue]

theorem LinesWhole.ended_of_settles (h : LinesWhole s) (hx : (s.trunk t).exchange = some x) {n : Nat}
    (k : Settles t (s.atEnd t n) u) : EndedOn t u := by
  refine ⟨?_, fun r hr => ?_⟩
  · have := k.trunk t
    rw [State.trunk_atEnd, if_pos rfl] at this
    rw [this]
    exact (h t).ended hx k.sound k.settled
  · have := k.trunk r
    rw [k.other r hr, State.trunk_atEnd, if_neg hr, State.queue_atEnd] at this
    rw [this]
    exact h r

theorem LinesWhole.ended (h : LinesWhole s) (hx : (s.trunk t).exchange = some x) (hk : x.kind.isCommand = false) (n : Nat) :
    EndedOn t (s.atEnd t n) := by
  refine h.ended_of_settles hx ⟨fun _ => rfl, fun _ _ => rfl, ?_, ?_⟩ <;> rw [State.queue_atEnd]
  · exact (h t).1
  · exact (h t).settled (by simp [Trunk.sendsCommand, hx, hk])

theorem LinesWhole.commandEnded (h : LinesWhole s) (hx : (s.trunk t).exchange = some x) (n : Nat) (r : Option CommandReply) :
    EndedOn t ((s.atEnd t n).commandResult t r) :=
  h.ended_of_settles hx (.commandResult (by rw [State.queue_atEnd]; exact (h t).1) r)

theorem LinesWhole.missEnded (h : LinesWhole s) (hx : (s.trunk t).exchange = some x) (n : Nat) :
    EndedOn t ((s.atEnd t n).handMiss t x.kind) := by
  cases hk : x.kind with
  | scan stamp => exact (h.ended hx (by rw [hk]; rfl) n).work (.tableResult _ stamp _)
  | headScan stamp => exact (h.ended hx (by rw [hk]; rfl) n).work (.tableResult _ stamp _)
  | pair stamp => exact (h.ended hx (by rw [hk]; rfl) n).work (.tableResult _ stamp _)
  | command item => exact h.commandEnded hx n none
  | rollcall => exact h.ended hx (by rw [hk]; rfl) n

theorem LinesWhole.replyEnded (h : LinesWhole s) (hx : (s.trunk t).exchange = some x) (n : Nat) (f : HeardFrame) :
    EndedOn t ((s.atEnd t n).handReply t x f).1 := by
  unfold State.handReply
  cases hk : x.kind with
  | scan stamp => exact (h.ended hx (by rw [hk]; rfl) n).work (.tableResult _ stamp _)
  | headScan stamp => exact (h.ended hx (by rw [hk]; rfl) n).work (.tableResult _ stamp _)
  | pair stamp => exact h.ended hx (by rw [hk]; rfl) n
  | command item => exact h.commandEnded hx n _
  | rollcall => exact h.ended hx (by rw [hk]; rfl) n

end

end Sys2Proof.Machine
end

section
namespace Sys2Proof.Machine

/-! ## The frame of a slot (R109 to R115, R122, R123) -/

/-- A slot has begun on a RUNNING trunk without an exchange, and both trunks are sound. -/
structure SlotBegun (t : TrunkId) (s : State) : Prop where
  lines : LinesWhole s
  state : (s.trunk t).state = .running
  exchange : (s.trunk t).exchange = none

namespace SlotBegun

section
variable {s : State} {t : TrunkId} (h : SlotBegun t s)
include h

theorem settled : Settled (s.trunk t).queue := (h.lines t).settled (by simp [Trunk.sendsCommand, h.exchange])

theorem beginExchange (kind : ExchangeKind) (a : Nat) (request : List Byte) :
    LinesWhole (s.beginExchange t kind a request) :=
  h.lines.setTrunk ((h.lines t).begin h.state (h.lines t).1 (.inl h.settled))

theorem mismatch (k : EntryIndex) : LinesWhole (s.mismatch t k) := by
  have marked : LinesWhole (s.modifyTrunk t fun x => { x with sweepMismatch := true, lastMismatch := some k }) :=
    h.lines.setTrunk (h.lines t)
  unfold State.mismatch
  dsimp only
  split
  · exact marked
  · exact marked.raiseAll _

theorem scanSlot (k : EntryIndex) (l : Station) : LinesWhole (s.scanSlot t k l) := by
  unfold State.scanSlot
  split
  · split
    · exact h.mismatch k
    · exact h.beginExchange _ _ _
  · exact h.lines

theorem headSlot (k : EntryIndex) (l : Station) : LinesWhole (s.headSlot t k l) := by
  unfold State.headSlot
  split
  · dsimp only
    split
    · split
      · rename_i i _
        have consumed : SlotBegun t (s.modifyTrunk t (·.consumeTail i ((s.schedule t).get i).length)) :=
          ⟨h.lines.setTrunk ((h.lines t).setSlot h.state _), by simp [Trunk.consumeTail, h.state],
            by simp [Trunk.consumeTail, h.exchange]⟩
        exact consumed.beginExchange _ _ _
      · have scanned := h.beginExchange (.headScan (s.stampOf l)) (s.map l).address (scanRequest (s.map l).address)
        have marked := scanned.setTrunk (t := t) (y := { (s.beginExchange t (.headScan (s.stampOf l)) (s.map l).address
          (scanRequest (s.map l).address)).trunk t with sweepMismatch := true, lastMismatch := some k }) (scanned t)
        unfold State.mismatch
        dsimp only
        split
        · exact marked
        · exact marked.raiseAll _
    · exact h.mismatch k
  · exact h.lines

/-- A waiting head that is sent is the only entry in flight (R122, R123). -/
theorem stamped_sound {e : CommandEntry} (he : s.head t = some e) (hw : e.stamp = none) (st : CommandStamp) :
    QueueSound (replaceFirst (s.queue t) s.mayBeSent { e with stamp := some st }) := by
  have hq : QueueSound (s.queue t) := (h.lines t).1
  unfold State.head at he
  cases hf : s.inFlight t with
  | some d =>
    rw [hf] at he
    cases he
    have := (Settles.inFlight_sound hq hf).2
    simp [CommandEntry.waiting, hw] at this
  | none =>
    rw [hf] at he
    have hfound : (s.queue t).find? s.mayBeSent = some e := he
    have hi : (s.queue t)[(s.queue t).findIdx s.mayBeSent]? = some e := by rw [← List.find?_eq_getElem?_findIdx, hfound]
    have hmem := List.mem_of_getElem? hi
    have hall : ∀ d ∈ s.queue t, d.waiting = true := fun d hd => by simpa using List.find?_eq_none.1 hf d hd
    obtain ⟨hattempts, hdone, hstatus, hvalue⟩ := hq.entry hmem
    exact hq.set hi ⟨hattempts, fun _ => rfl, hstatus, hvalue⟩ nofun fun _ => .inr hall

theorem commandSlot {e : CommandEntry} (he : s.head t = some e) : LinesWhole (s.commandSlot t e) := by
  unfold State.commandSlot
  split
  · rename_i hw
    have hq := h.stamped_sound he hw (s.commandStamp e.index)
    dsimp only
    simp only [State.beginExchange, State.setQueue_eq, State.modifyTrunk_eq, State.trunk_setTrunk, if_true,
      State.setTrunk_setTrunk]
    exact h.lines.setTrunk ((h.lines t).begin h.state hq (.inr rfl))
  · exact h.beginExchange _ _ _

theorem slotFrame (k : EntryIndex) (rule : SlotRule) : LinesWhole (s.slotFrame t k rule) := by
  have head : ∀ {e}, s.commandHead t = some e → s.head t = some e := fun {e} he => by
    unfold State.commandHead at he
    split at he
    · cases he
    · exact he
  cases rule with
  | scan l => exact h.scanSlot k l
  | twinHead l => exact h.headSlot k l
  | cmdOrScan l =>
    unfold State.slotFrame
    dsimp only
    split
    · rename_i he; exact h.commandSlot (head he)
    · exact h.scanSlot k l
  | cmdOrQuiet =>
    unfold State.slotFrame
    dsimp only
    split
    · rename_i he; exact h.commandSlot (head he)
    · exact h.lines
  | rollcall => exact h.beginExchange _ _ _
  | twinTail => exact h.lines
  | quiet => exact h.lines

end

end SlotBegun

/-! ## Events of a trunk -/

namespace LinesWhole

section
variable {s : State} {t : TrunkId} (h : LinesWhole s)
include h

theorem execSlotStart (t : TrunkId) : Gives LinesWhole (execSlotStart t s) := by
  unfold Machine.execSlotStart
  split
  · rename_i hrun
    obtain ⟨-, hstate, hnone⟩ := hrun
    have hexchange : (s.trunk t).exchange = none := by simpa using hnone
    have ha := h.await (s.trunk t).slotDue
    dsimp only
    split
    · rename_i k wrapped _
      have begun : SlotBegun t ((s.await (s.trunk t).slotDue).setTrunk t { (s.trunk t).advance k wrapped with
          slot := some
            { entry := k, startAt := (s.await (s.trunk t).slotDue).clock
              length := (((s.await (s.trunk t).slotDue).schedule t).get k).length } }) :=
        ⟨ha.setTrunk ((h t).setSlot hstate _), by simp [Trunk.advance, hstate], by simp [Trunk.advance, hexchange]⟩
      exact begun.slotFrame k _
    · obtain ⟨hq, -, -, -, -, htx, hrate, -⟩ := h t
      have hs := (h t).settled (by simp [Trunk.sendsCommand, hexchange])
      have stopped : LinesWhole ((s.await (s.trunk t).slotDue).enterStopped t) :=
        enterStopped_whole (s := s.await _) (by simpa using hexchange) (by simpa using htx) (by simpa using hrate)
          (by simpa using hq) (by simpa using hs) fun r _ => ha r
      exact stopped.setTrunk (stopped t)
  · exact h

theorem execRequestSent (t : TrunkId) : Gives LinesWhole (execRequestSent t s) := by
  unfold Machine.execRequestSent
  split
  · rename_i e he
    split
    · refine (h.await _).setTrunk ?_
      exact Trunk.Whole.setExchange (x := s.trunk t) (h t) he rfl
    · exact h
  · exact h

theorem execTrunkByteReceived (t : TrunkId) (b : Byte) (ok : Bool) : Gives LinesWhole (execTrunkByteReceived t b ok s) := by
  unfold Machine.execTrunkByteReceived
  split
  · rename_i e he
    split
    · split
      · refine (h.await _).setTrunk ?_
        exact Trunk.Whole.setExchange (x := s.trunk t) (h t) he rfl
      · exact h
    · exact h
  · exact h

theorem execTxStuck (t : TrunkId) : Gives LinesWhole (execTxStuck t s) := by
  unfold Machine.execTxStuck
  split
  · split
    · rename_i hstate
      obtain ⟨hq, hrest, -, -, -, -, hrate, -⟩ := h t
      obtain ⟨hslot, hexchange⟩ := hrest (.inl hstate)
      have hs := (h t).settled (by simp [Trunk.sendsCommand, hexchange])
      exact (h.setTrunk (t := t) (y := (s.trunk t).faulted _)
        (Trunk.whole_stopped hstate hslot hexchange (fun _ => rfl) hrate hq hs)).raiseAll _
    all_goals exact h.halt _ _
  · exact h

theorem execEchoLost (t : TrunkId) : Gives LinesWhole (execEchoLost t s) := by
  unfold Machine.execEchoLost
  split
  · exact h.halt _ _
  · exact h

theorem execLineHeldSet (t : TrunkId) : Gives LinesWhole (execLineHeldSet t s) := by
  unfold Machine.execLineHeldSet
  split
  · refine LinesWhole.raiseAll (h.setTrunk ?_) _
    change (s.trunk t).markHeld.Whole
    cases hx : (s.trunk t).exchange with
    | none =>
      have : (s.trunk t).markHeld = { s.trunk t with lineHeld := true } := by simp [Trunk.markHeld, hx]
      rw [this]
      exact h t
    | some e =>
      have := Trunk.Whole.setExchange (x := { s.trunk t with lineHeld := true }) (h t) hx (e' := { e with disturbed := true }) rfl
      simpa [Trunk.markHeld, hx] using this
  · exact h

theorem execLineHeldCleared (t : TrunkId) : Gives LinesWhole (execLineHeldCleared t s) := by
  unfold Machine.execLineHeldCleared
  split
  · exact LinesWhole.raiseAll (h.setTrunk (t := t) (y := { s.trunk t with lineHeld := false }) (h t)) _
  · exact h

theorem execReplyTimeout (t : TrunkId) : Gives LinesWhole (execReplyTimeout t s) := by
  unfold Machine.execReplyTimeout
  split
  · rename_i x hx
    split
    · dsimp only
      split
      · exact (h.missEnded hx _).afterExchange _ _
      · exact h
    · exact h
  · exact h

theorem execReplyClosed (t : TrunkId) : Gives LinesWhole (execReplyClosed t s) := by
  unfold Machine.execReplyClosed
  split
  · rename_i x hx
    split
    · dsimp only
      split
      · rename_i f _
        split
        · exact (h.replyEnded hx _ f).afterExchange _ _
        · exact h
      · exact h
    · exact h
  · exact h

theorem execPairExchangeEnd (t : TrunkId) : Gives LinesWhole (execPairExchangeEnd t s) := by
  unfold Machine.execPairExchangeEnd
  split
  · rename_i x hx
    split
    · rename_i hk
      split
      · exact ((h.ended hx (by rw [hk]; rfl) _).work (.tableResult _ _ _)).afterExchange _ _
      · exact h
    · exact h
  · exact h

theorem execRollcallEnd (t : TrunkId) : Gives LinesWhole (execRollcallEnd t s) := by
  unfold Machine.execRollcallEnd
  split
  · rename_i x hx
    split
    · rename_i sent _ hk
      split
      · have ended := h.ended hx (by rw [hk]; rfl) (sent + 808 * (s.trunk t).bitTicks)
        refine EndedOn.afterExchange ?_ _ _
        split
        · exact ended
        · exact ended.work (.rollcallAnswers _ t _)
      · exact h
    · exact h
  · exact h

theorem execWithheldExchangeEnd (t : TrunkId) : Gives LinesWhole (execWithheldExchangeEnd t s) := by
  unfold Machine.execWithheldExchangeEnd
  split
  · rename_i x hx
    split
    · exact (h.missEnded hx _).afterExchange _ _
    · exact h
  · exact h

/-! ## The trunk requests (R92, R93, R95) -/

theorem carryStart (rates : ∀ r, RateSound (s.params.rateOf r)) (t : TrunkId) : LinesWhole (s.carryStart t).1 := by
  unfold State.carryStart
  split
  · rename_i hstate
    split
    · exact h
    · obtain ⟨-, hrest, -⟩ := h t
      exact h.setTrunk ((h t).run (hrest (.inl hstate)).2 (rates t) _)
  all_goals exact h

theorem carryStop (t : TrunkId) : LinesWhole (s.carryStop t).1 := by
  have stops : (s.trunk t).exchange = none → LinesWhole (s.enterStopped t) := fun hx => by
    obtain ⟨hq, -, -, -, -, htx, hrate, -⟩ := h t
    exact enterStopped_whole hx htx hrate hq ((h t).settled (by simp [Trunk.sendsCommand, hx])) fun r _ => h r
  unfold State.carryStop
  split
  · rename_i hstate
    split
    · rename_i hx
      obtain ⟨hq, -, -, hruns, -, htx, hrate, hflight⟩ := h t
      exact h.setTrunk ⟨hq, by simp, by simp, fun _ => hruns (.inl hstate), fun _ => hx, htx, hrate, hflight⟩
    · rename_i hx
      exact stops (by simpa using hx)
  · rename_i hstate
    obtain ⟨-, hrest, -⟩ := h t
    exact stops (hrest (.inr hstate)).2
  all_goals exact h

theorem carryResume (t : TrunkId) : LinesWhole (s.carryResume t).1 := by
  unfold State.carryResume
  split
  · rename_i hstate
    split
    · exact h
    · obtain ⟨-, hrest, -, -, -, -, hrate, -⟩ := h t
      exact h.setTrunk ((h t).run (hrest (.inr hstate)).2 hrate _)
  all_goals exact h

theorem onTrunk {rule : State → TrunkId → Carried} (k : ∀ r, LinesWhole (rule s r).1) (trunk : Nat) :
    LinesWhole (Machine.onTrunk s trunk rule).1 := by
  unfold Machine.onTrunk
  split
  · exact k _
  · exact h

/-! ## Resets (R178, R179) -/

theorem networkReset : LinesWhole s.networkReset := fun r => by
  rw [State.networkReset_eq]
  cases r
  · exact (h .a).restarted
  · exact (h .b).restarted

theorem execResponseComplete (p : PortId) : Gives LinesWhole (execResponseComplete p s) := by
  unfold Machine.execResponseComplete
  split
  · exact h
  · split
    · refine LinesWhole.work ?_ (.nextResponse _ p)
      split
      · exact (h.await _).networkReset
      · exact h.await _
    · exact h

end

end LinesWhole

theorem State.SettingsSound.rates {s : State} (h : s.SettingsSound) (r : TrunkId) : RateSound (s.params.rateOf r) := by
  obtain ⟨⟨⟨-, -, -, -, -, -, -, -, -, -, -, -, -, -, -, ha, hb⟩, -⟩, -⟩ := h
  cases r
  · exact ha
  · exact hb

theorem linesWhole_startUp {s : State} (h : s.SettingsSound) (strap : PortId → Profile) : LinesWhole (s.startUp strap) :=
  fun r => by
    have hrates := (h.startUp strap).rates
    cases r
    · exact Trunk.whole_atReset _ (hrates .a)
    · exact Trunk.whole_atReset _ (hrates .b)

/-! ## Every step -/

/-- Every command but the assertion of the reset keeps the laws of the queues and the trunks. -/
theorem exec_keeps_linesWhole {i : Instr} (hi : i ≠ .resetAsserted) {s : State} (settings : s.SettingsSound)
    (h : LinesWhole s) : Gives LinesWhole (exec i s) := by
  have work : ∀ {u}, LineWork s u → LinesWhole u := h.work
  have take : ∀ {p tag code gate restarts} {f : State → Carried}, (∀ u, LineWork u (f u).1) →
      LinesWhole (s.take p tag code gate restarts f) := fun k => h.work (.take k)
  have trunk : ∀ {p tag code gate restarts n} {rule : State → TrunkId → Carried},
      (∀ u r, Quiet u (rule u r).1) → (∀ u : State, u.SettingsSound → LinesWhole u → ∀ r, LinesWhole (rule u r).1) →
      LinesWhole (s.take p tag code gate restarts fun u => Machine.onTrunk u n rule) := fun quiet k =>
    (State.take_keeps (P := fun u => u.SettingsSound ∧ LinesWhole u)
      (fun _ _ _ _ hu => ⟨hu.1, hu.2.work (.of_trunks (by simp))⟩)
      (fun u _ hu => ⟨.of_part (Quiet.onTrunk quiet u _).settings hu.1, hu.2.onTrunk (k u hu.1 hu.2) _⟩) ⟨settings, h⟩).2
  have same : ∀ {u : State}, (∀ r, u.trunk r = s.trunk r) → LinesWhole u := fun k => h.work (.of_trunks k)
  have onTrunks : ∀ {u v : State}, v.trunkA = u.trunkA → v.trunkB = u.trunkB → LineWork u v := fun ha hb =>
    .of_trunks fun r => by cases r <;> assumption
  cases i with
  | fullReset p0 p1 p2 p3 => exact linesWhole_startUp settings _
  | requestDiscarded p => change Gives _ (execRequestDiscarded p s); unfold execRequestDiscarded; split <;> exact same (by simp)
  | unknownRequest p tag code => exact take fun u => .refl u
  | responseComplete p => exact h.execResponseComplete p
  | hello p tag => exact take fun u => .helloTaken u p
  | refresh p tag => exact take fun u => .refreshTaken u p
  | setWindow p tag seconds => exact take fun u => onTrunks rfl rfl
  | status p tag => exact take fun u => .refl u
  | ack p tag flags => exact take fun u => onTrunks rfl rfl
  | setMask p tag flags => exact take fun u => onTrunks rfl rfl
  | setNotify p tag mode => exact take fun u => by split <;> exact onTrunks rfl rfl
  | readDispatch p tag selector =>
    have record : ∀ (u : State) r, LineWork u (answerRecord u r).1 := fun u r => by cases r <;> exact .refl u
    exact take fun u => by
      split
      · exact record u _
      · exact record u _
      · exact .refl u
  | readImage p tag first count step => exact take fun u => by split <;> exact .refl u
  | readStation p tag index => exact take fun u => by split <;> exact .refl u
  | readQueue p tag trunk => exact take fun u => by split <;> exact .refl u
  | readCandidates p tag => exact take fun u => .refl u
  | readOutcomes p tag => exact take fun u => onTrunks rfl rfl
  | readParam p tag identifier => exact take fun u => by split <;> exact .refl u
  | fallbackClear p tag =>
    exact take fun u => by
      split
      · dsimp only [answerOk]
        split <;> exact onTrunks rfl rfl
      · exact .refl u
  | postOffer p tag mode f cmin cmax rank ramp discharge charge => exact take fun u => by split <;> exact onTrunks rfl rfl
  | withdrawOffer p tag => exact take fun u => by split <;> exact onTrunks rfl rfl
  | writeMap p tag index flags trunk address qc dpmin mark => exact take fun u => .carryWriteMap u _ _ _ _ _ _ _
  | writeSlot p tag trunk entry rule index length => exact take fun u => .carryWriteSlot u _ _ _ _ _
  | writeParam p tag identifier value => exact take fun u => .carryWriteParam u _ _
  | save p tag => exact take fun u => onTrunks rfl rfl
  | saveComplete =>
    change Gives _ (execSaveComplete s)
    unfold execSaveComplete
    split
    · split
      · exact work (onTrunks rfl rfl)
      · exact h
    · exact h
  | trunkStart p tag n => exact trunk Quiet.carryStart fun u hu ku r => ku.carryStart hu.rates r
  | trunkStop p tag n => exact trunk Quiet.carryStop fun u _ ku r => ku.carryStop r
  | trunkResume p tag n => exact trunk Quiet.carryResume fun u _ ku r => ku.carryResume r
  | restart p tag => exact take fun u => .refl u
  | override p tag index item value => exact take fun u => .carryOverride u p _ _ _
  | release p tag index => exact take fun u => .carryRelease u p _
  | cancel p tag index item => exact take fun u => .carryCancel u p _ _
  | admitCandidate p tag trunk address index twin qc => exact take fun u => .carryAdmit u _ _ _ _ _
  | reject p tag trunk address =>
    exact take fun u => by
      split
      · split_ifs
        case neg => exact (LineWork.removeCandidate u _ _).then_trunks fun r => State.trunk_setRefused ..
        all_goals exact .refl u
      · exact .refl u
  | forget p tag trunk address =>
    exact take fun u => by
      split
      · split_ifs
        case neg => exact .of_trunks (by simp [answerOk])
        all_goals exact .refl u
      · exact .refl u
  | longWindowExpiry p =>
    change Gives _ (execLongWindowExpiry p s)
    unfold execLongWindowExpiry
    have failed : ∀ n, LinesWhole ((s.await n).fail p) := fun n => (h.await n).work (.fail _ p)
    split <;> [split; split; skip] <;> solve | exact failed _ | exact h
  | refreshWindowExpiry p =>
    change Gives _ (execRefreshWindowExpiry p s)
    unfold execRefreshWindowExpiry
    split <;> [split; skip]
    case isTrue => exact (h.await _).work (.fail _ p)
    all_goals exact h
  | dispatchExpiry =>
    change Gives _ (execDispatchExpiry s)
    unfold execDispatchExpiry
    split
    · exact ((h.await _).work (.dispatchOnce _)).work (onTrunks rfl rfl)
    · exact h
  | limiterExpiry =>
    change Gives _ (execLimiterExpiry s)
    unfold execLimiterExpiry
    split
    · have timed : LinesWhole { s.await s.limiterDue with
          limiterDue := (s.await s.limiterDue).clock + (s.await s.limiterDue).params.limiterPeriod * ticksPerSecond } :=
        work (onTrunks rfl rfl)
      dsimp only
      split
      · exact timed.work (.evaluate _)
      all_goals exact timed
    · exact h
  | staleAgeExpiry l =>
    change Gives _ (execStaleAgeExpiry l s)
    unfold execStaleAgeExpiry
    split <;> [split; skip] <;> exact h
  | holdLimitExpiry l =>
    change Gives _ (execHoldLimitExpiry l s)
    unfold execHoldLimitExpiry
    split <;> [split; skip]
    · exact (h.await _).work (.enterLost _ l)
    all_goals exact h
  | slotStart t => exact h.execSlotStart t
  | requestSent t => exact h.execRequestSent t
  | replyTimeout t => exact h.execReplyTimeout t
  | replyClosed t => exact h.execReplyClosed t
  | pairExchangeEnd t => exact h.execPairExchangeEnd t
  | rollcallEnd t => exact h.execRollcallEnd t
  | withheldExchangeEnd t => exact h.execWithheldExchangeEnd t
  | txStuck t => exact h.execTxStuck t
  | echoLost t => exact h.execEchoLost t
  | lineHeldSet t => exact h.execLineHeldSet t
  | lineHeldCleared t => exact h.execLineHeldCleared t
  | resetAsserted => exact absurd rfl hi
  | portByteReceived p b =>
    change Gives _ (execPortByteReceived p b s); unfold execPortByteReceived; split <;> exact same (by simp)
  | trunkByteReceived t b ok => exact h.execTrunkByteReceived t b ok

theorem State.idle_trunks (s : State) : s.idle.trunkA = s.trunkA ∧ s.idle.trunkB = s.trunkB ∧ s.idle.powered = s.powered := by
  unfold State.idle
  split <;> [split; skip; skip] <;> exact ⟨rfl, rfl, rfl⟩

/-- Every command keeps the laws of the queues and the trunks; the assertion of the reset leaves the queues as they are. -/
theorem exec_keeps_queuesAndTrunks (i : Instr) {s : State} (settings : s.SettingsSound) (queues : s.QueuesSound)
    (trunks : s.TrunksSound) : Gives (fun t => t.QueuesSound ∧ t.TrunksSound) (exec i s) := by
  have laws : ∀ {o}, Gives LinesWhole o → Gives (fun t => t.QueuesSound ∧ t.TrunksSound) o := fun h =>
    h.mono fun _ k => ⟨⟨(k .a).1, (k .b).1⟩, fun _ => ⟨(k .a).2, (k .b).2⟩⟩
  by_cases reset : i = .resetAsserted
  · subst reset
    exact ⟨queues, nofun⟩
  by_cases on : s.powered = true
  · exact laws (exec_keeps_linesWhole reset settings ((linesWhole_iff on).2 ⟨queues, trunks⟩))
  by_cases full : ∃ p0 p1 p2 p3, i = .fullReset p0 p1 p2 p3
  · obtain ⟨p0, p1, p2, p3, rfl⟩ := full
    exact laws (linesWhole_startUp settings _)
  · rw [exec_unpowered (by simpa using on) reset fun p0 p1 p2 p3 h => full ⟨p0, p1, p2, p3, h⟩]
    exact ⟨queues, trunks⟩

end Sys2Proof.Machine

open Sys2Proof.Machine in
/-- Settles O56: outside a reset both trunks stay sound with their queues, an entry in flight among them. -/
theorem stepKeepsQueuesAndTrunksSound : Obligations.StepKeepsQueuesAndTrunksSound := by
  intro s t settings queues trunks h
  cases hp : s.pending with
  | nil =>
    rw [step_idle hp] at h
    cases h
    obtain ⟨ha, hb, on⟩ := s.idle_trunks
    unfold State.QueuesSound State.TrunksSound State.queue State.trunk
    rw [ha, hb, on]
    exact ⟨queues, trunks⟩
  | cons c cs =>
    rw [step_front hp] at h
    exact (exec_keeps_queuesAndTrunks c (s := { s with pending := cs }) settings queues trunks).of_eq h

end

/-! # Proofs: the trunk requests and the line supervision -/

section
namespace Sys2Proof.Machine

/-! ## TRUNK_START, TRUNK_STOP and TRUNK_RESUME by the trunk's state (R92, R93, R95) -/

section
variable {s : State} {t : TrunkId}

theorem onTrunk_trunkCode (s : State) (t : TrunkId) (rule : State → TrunkId → Carried) :
    onTrunk s (trunkCode t) rule = rule s t := by simp [onTrunk]

theorem onTrunk_of_le {n : Nat} (h : 2 ≤ n) (s : State) (rule : State → TrunkId → Carried) :
    onTrunk s n rule = answerCode s .badIndex := by simp [onTrunk, trunkOf_of_le h]

theorem State.enterStopped_eq (s : State) (t : TrunkId) :
    s.enterStopped t = (s.setTrunk t { s.trunk t with state := .stopped, slot := none }).flagged .trunk :=
  State.raiseAll_eq_flagged _ _

theorem State.carryStart_stopped (h : (s.trunk t).state = .stopped) :
    s.carryStart t = if s.scheduleEmpty t then answerCode s .empty
      else answerOk (s.setTrunk t { (s.trunk t).run with rate := s.params.rateOf t, pointer := none }) [] := by
  simp only [State.carryStart, h, State.modifyTrunk_eq]

theorem State.carryStart_running (h : (s.trunk t).state = .running) : s.carryStart t = answerOk s [] := by
  simp only [State.carryStart, h]

theorem State.carryStart_notReady (h : (s.trunk t).state = .stopping ∨ (s.trunk t).state = .halted) :
    s.carryStart t = answerCode s .notReady := by
  rcases h with h | h <;> simp only [State.carryStart, h]

theorem State.carryStop_running (h : (s.trunk t).state = .running) :
    s.carryStop t = if (s.trunk t).exchange.isSome then answerOk (s.setTrunk t { s.trunk t with state := .stopping }) []
      else answerOk (s.enterStopped t) [] := by
  simp only [State.carryStop, h, State.modifyTrunk_eq]

theorem State.carryStop_halted (h : (s.trunk t).state = .halted) : s.carryStop t = answerOk (s.enterStopped t) [] := by
  simp only [State.carryStop, h]

theorem State.carryStop_same (h : (s.trunk t).state = .stopping ∨ (s.trunk t).state = .stopped) :
    s.carryStop t = answerOk s [] := by
  rcases h with h | h <;> simp only [State.carryStop, h]

theorem State.carryResume_halted (h : (s.trunk t).state = .halted) :
    s.carryResume t = if s.scheduleEmpty t then answerCode s .empty else answerOk (s.setTrunk t (s.trunk t).run) [] := by
  simp only [State.carryResume, h, State.modifyTrunk_eq]

theorem State.carryResume_none (h : (s.trunk t).state ≠ .halted) : s.carryResume t = answerCode s .none := by
  unfold State.carryResume
  split
  · contradiction
  all_goals rfl

end

end Sys2Proof.Machine

open Sys2Proof.Machine in
/-- Settles O40: each request answers by the rule of its trunk, taken in the state that has received it. -/
theorem trunkRequestsFollowTheState : Obligations.TrunkRequestsFollowTheState := by
  intro p tag s operates
  refine ⟨fun n hn => ⟨?_, ?_, ?_⟩, fun t => ?_⟩
  · exact exec_operator_refused operates rfl (onTrunk_of_le hn _ _)
  · exact exec_operator_refused operates rfl (onTrunk_of_le hn _ _)
  · exact exec_operator_refused operates rfl (onTrunk_of_le hn _ _)
  have trunk : (s.received p).trunk t = s.trunk t := State.trunk_received s p t
  have empty : (s.received p).scheduleEmpty t = true ↔ ∀ k, ¬inSweep (s.schedule t) k := State.scheduleEmpty_iff _ t
  have start_refused : ∀ {c}, (s.received p).carryStart t = answerCode (s.received p) c →
      exec (.trunkStart p tag (trunkCode t)) s = .next ((s.received p).answers p (codeResponse tag 0x34 c)) := fun h =>
    exec_operator_refused operates rfl ((onTrunk_trunkCode ..).trans h)
  have start_ok : ∀ {u}, (s.received p).carryStart t = answerOk u [] →
      exec (.trunkStart p tag (trunkCode t)) s = .next (u.answers p (okResponse tag 0x34 [])) := fun h =>
    exec_operator_ok operates rfl ((onTrunk_trunkCode ..).trans h)
  have stop_ok : ∀ {u}, (s.received p).carryStop t = answerOk u [] →
      exec (.trunkStop p tag (trunkCode t)) s = .next (u.answers p (okResponse tag 0x35 [])) := fun h =>
    exec_operator_ok operates rfl ((onTrunk_trunkCode ..).trans h)
  have resume_refused : ∀ {c}, (s.received p).carryResume t = answerCode (s.received p) c →
      exec (.trunkResume p tag (trunkCode t)) s = .next ((s.received p).answers p (codeResponse tag 0x36 c)) := fun h =>
    exec_operator_refused operates rfl ((onTrunk_trunkCode ..).trans h)
  have resume_ok : ∀ {u}, (s.received p).carryResume t = answerOk u [] →
      exec (.trunkResume p tag (trunkCode t)) s = .next (u.answers p (okResponse tag 0x36 [])) := fun h =>
    exec_operator_ok operates rfl ((onTrunk_trunkCode ..).trans h)
  refine ⟨fun hx he => ?_, fun hx he => ?_, fun hx => ?_, fun hx => ?_, fun hx hexchange => ?_, fun hx hexchange => ?_,
    fun hx => ?_, fun hx => ?_, fun hx he => ?_, fun hx he => ?_, fun hx => ?_⟩ <;>
    rw [← trunk] at hx
  · exact start_refused ((State.carryStart_stopped hx).trans (if_pos (empty.2 he)))
  · have h := (State.carryStart_stopped hx).trans (if_neg (mt empty.1 he))
    rw [trunk] at h
    cases t <;> exact start_ok h
  · exact start_ok (State.carryStart_running hx)
  · exact start_refused (State.carryStart_notReady hx)
  · have h := (State.carryStop_running hx).trans (if_pos (by rw [trunk]; exact Option.isSome_iff_ne_none.2 hexchange))
    rw [trunk] at h
    exact stop_ok h
  · have h := (State.carryStop_running hx).trans (if_neg (by rw [trunk, hexchange]; exact nofun))
    rw [State.enterStopped_eq, trunk] at h
    exact stop_ok h
  · have h := State.carryStop_halted hx
    rw [State.enterStopped_eq, trunk] at h
    exact stop_ok h
  · exact stop_ok (State.carryStop_same hx)
  · exact resume_refused ((State.carryResume_halted hx).trans (if_pos (empty.2 he)))
  · have h := (State.carryResume_halted hx).trans (if_neg (mt empty.1 he))
    rw [trunk] at h
    exact resume_ok h
  · exact resume_refused (State.carryResume_none hx)

end

section
namespace Sys2Proof.Machine

/-! ## Halts (R94, R101, R128) -/

section
variable {s : State} {t : TrunkId}

theorem State.trunk_displaced (s : State) (e : CommandEntry) (o : Originator) (r : TrunkId) :
    (s.displaced e o).trunk r = s.trunk r := by
  unfold State.displaced
  split <;> simp

/-- A command's entry dealt with on one trunk leaves the other trunk as it was. -/
theorem State.trunk_abandonCommand {r : TrunkId} (hr : r ≠ t) : (s.abandonCommand t).trunk r = s.trunk r := by
  unfold State.abandonCommand State.endInFlight State.waitAgain State.setInFlight
  split
  · rfl
  · split
    · simp [hr]
    · split <;> simp [hr, State.trunk_displaced]

/-- The state in which a halt has dealt with the entry of the exchange it abandons. -/
def State.entryAbandoned (s : State) (t : TrunkId) : State := if (s.trunk t).sendsCommand then s.abandonCommand t else s

theorem WorkFrame.entryAbandoned (s : State) (t : TrunkId) : WorkFrame s (s.entryAbandoned t) := by
  unfold State.entryAbandoned
  split
  · exact .abandonCommand s t
  · exact .refl s

theorem State.trunk_entryAbandoned {r : TrunkId} (hr : r ≠ t) : (s.entryAbandoned t).trunk r = s.trunk r := by
  unfold State.entryAbandoned
  split
  · exact State.trunk_abandonCommand hr
  · rfl

/-- The trunk that a fault has halted, with the queue left to it. -/
def Trunk.halted (x : Trunk) (record : FaultRecord) (queue : List CommandEntry) : Trunk :=
  { x with state := .halted, txEnabled := false, slot := none, exchange := none, fault := some record, queue := queue }

/-- The fault record that a halt writes (R94). -/
def State.faultOf (s : State) (t : TrunkId) (kind : FaultKind) (frame : Option FrameKind) : FaultRecord :=
  { kind := kind, at_ := s.clock, entry := (s.trunk t).slot.map (·.entry), frame := frame }

theorem State.halt_eq (s : State) (t : TrunkId) (kind : FaultKind) (frame : Option FrameKind) :
    s.halt t kind frame =
      ((s.entryAbandoned t).setTrunk t
        ((s.trunk t).halted (s.faultOf t kind frame) ((s.entryAbandoned t).queue t))).flagged .trunk := by
  have trunk := (WorkFrame.entryAbandoned s t).trunk t
  unfold State.halt
  rw [State.raiseAll_eq_flagged]
  refine congrArg (State.flagged · .trunk) ?_
  unfold State.abandon
  split
  · rename_i hx
    have same : s.entryAbandoned t = s := if_neg (by simp [Trunk.sendsCommand, hx])
    simp only [same, State.modifyTrunk_eq]
    exact congrArg (s.setTrunk t) (by simp only [Trunk.halted, Trunk.faulted, ← hx]; rfl)
  · rename_i x hx
    have same : (if x.kind.isCommand then s.abandonCommand t else s) = s.entryAbandoned t := by
      simp [State.entryAbandoned, Trunk.sendsCommand, hx]
    dsimp only
    rw [same]
    simp only [State.modifyTrunk_eq, State.trunk_setTrunk, if_true, State.setTrunk_setTrunk, trunk]
    rfl

theorem State.trunk_halt (s : State) (t : TrunkId) (kind : FaultKind) (frame : Option FrameKind) :
    (s.halt t kind frame).trunk t = (s.trunk t).halted (s.faultOf t kind frame) ((s.entryAbandoned t).queue t) := by
  rw [State.halt_eq, ← State.raiseAll_eq_flagged]
  simp

theorem State.trunk_halt_other {r : TrunkId} (hr : r ≠ t) (kind : FaultKind) (frame : Option FrameKind) :
    (s.halt t kind frame).trunk r = s.trunk r := by
  rw [State.halt_eq, ← State.raiseAll_eq_flagged]
  simp [hr, State.trunk_entryAbandoned hr]

theorem State.hasFlag_halt (s : State) (t : TrunkId) (kind : FaultKind) (frame : Option FrameKind) (q : PortId) :
    hasFlag ((s.halt t kind frame).port q).flags .trunk := by
  rw [State.halt, State.raiseAll_eq, State.port_eachPort]
  exact hasFlag_or _ _

/-- Work on a state and on the same state with one trunk written differ in that trunk alone. -/
theorem WorkFrame.setTrunk {s u : State} (h : WorkFrame s u) (t : TrunkId) (y : Trunk)
    (others : ∀ r, r ≠ t → u.trunk r = s.trunk r) : WorkFrame (s.setTrunk t y) (u.setTrunk t y) := by
  obtain ⟨tables, ports, images⟩ := h
  refine ⟨?_, by cases t <;> exact ports, by cases t <;> exact images⟩
  cases t
  · have : u.trunkB = s.trunkB := others .b nofun
    rw [tables]
    simp [State.setTrunk]
  · have : u.trunkA = s.trunkA := others .a nofun
    rw [tables]
    simp [State.setTrunk]

theorem WorkFrame.halt (s : State) (t : TrunkId) (kind : FaultKind) (frame : Option FrameKind) :
    WorkFrame (s.setTrunk t ((s.halt t kind frame).trunk t)) (s.halt t kind frame) := by
  rw [State.trunk_halt, State.halt_eq, ← State.raiseAll_eq_flagged]
  exact ((WorkFrame.entryAbandoned s t).setTrunk t _ fun r hr => State.trunk_entryAbandoned hr).trans (.raiseAll _ _)

theorem Trunk.frameInFlight_eq (x : Trunk) :
    x.frameInFlight = x.exchange.bind fun e => if e.withheld then none else some e.kind.frame := by
  unfold Trunk.frameInFlight
  cases x.exchange <;> rfl

/-! ## Line supervision (R96 to R98) -/

theorem Trunk.isSending_iff {x : Trunk} :
    x.isSending = true ↔ ∃ e, x.exchange = some e ∧ e.withheld = false ∧ e.sentAt = none := by
  unfold Trunk.isSending
  cases x.exchange <;> simp

theorem Trunk.isSending_eq_false_iff {x : Trunk} :
    x.isSending = false ↔ ∀ e, x.exchange = some e → e.withheld = true ∨ e.sentAt.isSome = true := by
  unfold Trunk.isSending
  cases x.exchange with
  | none => simp
  | some e =>
    rw [Bool.and_eq_false_iff, Option.isNone_eq_false_iff]
    simp

theorem exec_txStuck_halts (on : s.powered = true) (tx : (s.trunk t).txEnabled = true) (h : (s.trunk t).state ≠ .stopped) :
    exec (.txStuck t) s = .next (s.halt t .txStuck (s.trunk t).frameInFlight) := by
  refine (if_pos ⟨on, tx⟩).trans ?_
  split
  · contradiction
  all_goals rfl

theorem exec_txStuck_stopped (on : s.powered = true) (tx : (s.trunk t).txEnabled = true) (h : (s.trunk t).state = .stopped) :
    exec (.txStuck t) s =
      .next ((s.setTrunk t ((s.trunk t).faulted ⟨.txStuck, s.clock, none, none⟩)).flagged .trunk) := by
  refine (if_pos ⟨on, tx⟩).trans ?_
  simp only [h, State.raiseAll_eq_flagged, State.modifyTrunk_eq]

end

end Sys2Proof.Machine

open Sys2Proof.Machine in
/-- Settles O42: a halt is its command's entry dealt with, then one writing of the trunk and a flag. -/
theorem lineSupervision : Obligations.LineSupervision := by
  intro t s on x frame halted
  have halts : ∀ kind, halted kind (s.halt t kind x.frameInFlight) := fun kind => by
    have queue : ∀ u, s.entryAbandoned t = u → ((s.halt t kind x.frameInFlight).trunk t).queue = u.queue t := fun u h => by
      rw [State.trunk_halt, h]; rfl
    have eq : ∀ u, s.entryAbandoned t = u → s.halt t kind x.frameInFlight =
        (u.setTrunk t ((s.halt t kind x.frameInFlight).trunk t)).flagged .trunk := fun u h => by
      rw [State.trunk_halt, ← h]; exact State.halt_eq ..
    have idle : x.sendsCommand = false → s.entryAbandoned t = s := fun h => if_neg (by simpa [x] using h)
    have sends : x.sendsCommand = true → s.entryAbandoned t = s.abandonCommand t := fun h => if_pos h
    refine ⟨?_, s.hasFlag_halt t kind _, fun h => ⟨eq s (idle h), queue s (idle h)⟩, fun h => ⟨eq _ (sends h), queue _ (sends h)⟩,
      fun r hr => State.trunk_halt_other hr kind _, .halt s t kind _⟩
    rw [State.trunk_halt, Trunk.frameInFlight_eq]
    rfl
  refine ⟨fun tx hx => ⟨_, exec_txStuck_halts on tx hx, halts .txStuck⟩, fun tx hx => exec_txStuck_stopped on tx hx,
    fun e he withheld unsent => ⟨_, if_pos ⟨on, Trunk.isSending_iff.2 ⟨e, he, withheld, unsent⟩⟩, halts .echoLost⟩,
    fun free sent => ?_, fun held => ?_⟩
  · refine (if_pos ⟨on, free, Trunk.isSending_eq_false_iff.2 sent⟩).trans ?_
    rw [State.raiseAll_eq_flagged]; rfl
  · refine (if_pos ⟨on, held⟩).trans ?_
    rw [State.raiseAll_eq_flagged]; rfl

end

/-! # Proofs: what a slot sends -/

section
namespace Sys2Proof.Machine

/-! ## A twin's tail (R110) -/

section
variable {sched : Schedule} {k j : EntryIndex}

theorem tailOf_eq_some (above : k < j) (sweep : inSweep sched j) (next : ∀ i, k < i → i < j → ¬inSweep sched i)
    (tail : (sched.get j).rule = .twinTail) : tailOf sched k = some j := by
  have first : firstFrom sched (k.val + 1) = some j := firstFrom_eq_some.2 ⟨above, sweep, next⟩
  simp only [tailOf, first, tail, if_true]

theorem tailOf_eq_none (h : ∀ j, k < j → inSweep sched j → (∀ i, k < i → i < j → ¬inSweep sched i) →
    (sched.get j).rule ≠ .twinTail) : tailOf sched k = none := by
  unfold tailOf
  split
  · rename_i j first
    obtain ⟨above, sweep, next⟩ := firstFrom_eq_some.1 first
    exact if_neg (h j above sweep next)
  · rfl

end

/-! ## The frames of a slot (R109 to R116) -/

section
variable {s : State} {t : TrunkId} {l : Station}

theorem State.boundOn_iff : s.boundOn t l = true ↔ (s.map l).enabled = true ∧ (s.map l).trunk = t := by
  simp [State.boundOn]

theorem State.mismatch_eq (s : State) (t : TrunkId) (k : EntryIndex) :
    s.mismatch t k = if (s.trunk t).lastMismatch = some k
      then s.setTrunk t { s.trunk t with sweepMismatch := true, lastMismatch := some k }
      else (s.setTrunk t { s.trunk t with sweepMismatch := true, lastMismatch := some k }).flagged .trunk := by
  simp only [State.mismatch, State.modifyTrunk_eq, State.raiseAll_eq_flagged]

theorem State.scanSlot_single (k : EntryIndex) (bound : s.boundOn t l = true) (single : (s.map l).twin = false) :
    s.scanSlot t k l = s.beginExchange t (.scan (s.stampOf l)) (s.map l).address (scanRequest (s.map l).address) := by
  simp only [State.scanSlot, bound, single, if_true, Bool.false_eq_true, if_false]

theorem State.scanSlot_twin (k : EntryIndex) (bound : s.boundOn t l = true) (twin : (s.map l).twin = true) :
    s.scanSlot t k l = s.mismatch t k := by
  simp only [State.scanSlot, bound, twin, if_true]

theorem State.scanSlot_unbound (k : EntryIndex) (unbound : ¬s.boundOn t l = true) : s.scanSlot t k l = s := if_neg unbound

theorem State.headSlot_single (k : EntryIndex) (bound : s.boundOn t l = true) (single : (s.map l).twin = false) :
    s.headSlot t k l = s.mismatch t k := by
  simp only [State.headSlot, bound, single, if_true, Bool.false_eq_true, if_false]

theorem State.headSlot_pair {k j : EntryIndex} (bound : s.boundOn t l = true) (twin : (s.map l).twin = true)
    (tail : tailOf (s.schedule t) k = some j) :
    s.headSlot t k l =
      (s.setTrunk t ((s.trunk t).consumeTail j ((s.schedule t).get j).length)).beginExchange t (.pair (s.stampOf l))
        (s.map l).address (pairRequest (s.map l).address) := by
  simp only [State.headSlot, bound, twin, if_true, tail, State.modifyTrunk_eq]

theorem State.headSlot_tailless {k : EntryIndex} (bound : s.boundOn t l = true) (twin : (s.map l).twin = true)
    (tail : tailOf (s.schedule t) k = none) :
    s.headSlot t k l =
      (s.beginExchange t (.headScan (s.stampOf l)) (s.map l).address (scanRequest (s.map l).address)).mismatch t k := by
  simp only [State.headSlot, bound, twin, if_true, tail]

theorem State.headSlot_unbound (k : EntryIndex) (unbound : ¬s.boundOn t l = true) : s.headSlot t k l = s := if_neg unbound

/-! ### Command slots (R114, R122) -/

theorem State.commandHead_eq_none (h : (s.trunk t).commandMark = true ∨ s.head t = none) : s.commandHead t = none := by
  unfold State.commandHead
  split
  · rfl
  · exact h.resolve_left ‹_›

theorem State.slotFrame_cmdOrScan_idle (k : EntryIndex) (l : Station) (h : s.commandHead t = none) :
    s.slotFrame t k (.cmdOrScan l) = s.slotFrame t k (.scan l) := by
  simp only [State.slotFrame, h]

theorem State.slotFrame_cmdOrQuiet_idle (k : EntryIndex) (h : s.commandHead t = none) : s.slotFrame t k .cmdOrQuiet = s := by
  simp only [State.slotFrame, h]

theorem State.slotFrame_cmdOrScan_command {e : CommandEntry} (k : EntryIndex) (l : Station) (h : s.commandHead t = some e) :
    s.slotFrame t k (.cmdOrScan l) = s.slotFrame t k .cmdOrQuiet := by
  simp only [State.slotFrame, h]

end

end Sys2Proof.Machine

open Sys2Proof.Machine in
/-- Settles O45: by rule, and for a rule that names a station by its map part and, of a twin, by the entry after it. -/
theorem slotSendsByItsRule : Obligations.SlotSendsByItsRule := by
  intro s t k x sends frame mismatched stamp bound reads
  have begins : ∀ kind a request, s.beginExchange t kind a request = s.setTrunk t (sends kind a request x) := fun _ _ _ => rfl
  have mismatch : s.mismatch t k = mismatched x := s.mismatch_eq t k
  have scan : ∀ l, reads (.scan l) l := fun l =>
    ⟨fun hb hs => State.scanSlot_single k (State.boundOn_iff.2 hb) hs, fun hb ht =>
      (State.scanSlot_twin k (State.boundOn_iff.2 hb) ht).trans mismatch,
      fun hb => State.scanSlot_unbound k (mt State.boundOn_iff.1 hb)⟩
  refine ⟨scan, fun l idle => ?_, fun idle => State.slotFrame_cmdOrQuiet_idle k (State.commandHead_eq_none idle),
    fun l clear => ?_, fun l => ⟨fun hb => State.headSlot_unbound k (mt State.boundOn_iff.1 hb), fun hb single =>
      (State.headSlot_single k (State.boundOn_iff.2 hb) single).trans mismatch, fun hb twin => ⟨?_, fun noTail => ?_⟩⟩,
    rfl, rfl, rfl⟩
  · have same := State.slotFrame_cmdOrScan_idle k l (State.commandHead_eq_none idle)
    obtain ⟨single, twin, unbound⟩ := scan l
    exact ⟨fun hb h => same.trans (single hb h), fun hb h => same.trans (twin hb h), fun hb => same.trans (unbound hb)⟩
  · cases hh : s.head t with
    | none => exact .inr rfl
    | some e => exact .inl (State.slotFrame_cmdOrScan_command k l ((if_neg (by simpa [x] using clear)).trans hh))
  · intro j above sweep next tail
    refine (State.headSlot_pair (State.boundOn_iff.2 hb) twin (tailOf_eq_some above sweep next tail)).trans ?_
    simp only [State.beginExchange, State.modifyTrunk_eq, State.trunk_setTrunk, if_true, State.setTrunk_setTrunk]
    cases t <;> rfl
  · refine (State.headSlot_tailless (State.boundOn_iff.2 hb) twin (tailOf_eq_none noTail)).trans ?_
    rw [begins, State.mismatch_eq]
    simp only [State.trunk_setTrunk, if_true, State.setTrunk_setTrunk]
    rfl

end

/-! # Proofs: the request on the line and what is heard after it -/

section
namespace Sys2Proof.Machine

section
variable {s : State} {t : TrunkId} {x : Exchange} {bt clock sent : Nat}

/-! ## What an exchange hears (R85, R97, R99) -/

theorem Exchange.hearsFrom_eq_some (live : x.withheld = false)
    (h : x.sentAt = some sent ∨ (x.sentAt = none ∧ sent = x.requestEnd bt ∧ sent ≤ clock)) :
    x.hearsFrom bt clock = some sent := by
  unfold Exchange.hearsFrom
  rw [live]
  rcases h with h | ⟨h, rfl, passed⟩
  · simp only [h, Bool.false_eq_true, if_false]
  · simp only [h, Bool.false_eq_true, if_false, if_pos passed]

theorem Exchange.hearsFrom_eq_none (h : x.withheld = true ∨ (x.sentAt = none ∧ clock < x.requestEnd bt)) :
    x.hearsFrom bt clock = none := by
  unfold Exchange.hearsFrom
  rcases h with h | ⟨h, early⟩
  · exact if_pos h
  · split
    · rfl
    · simp only [h, if_neg (Nat.not_le.2 early)]

theorem Exchange.lineFree_eq (x : Exchange) (bt sent : Nat) :
    x.lineFree bt sent = (x.heard.getLast?.map fun b => b.start + 10 * bt).getD sent := by
  unfold Exchange.lineFree
  cases x.heard.getLast? <;> rfl

/-! ## The two events (R85, R91, R97, R113) -/

theorem exec_requestSent (on : s.powered = true) (hx : (s.trunk t).exchange = some x) (live : x.withheld = false)
    (unsent : x.sentAt = none) :
    exec (.requestSent t) s =
      .next ((s.await (x.requestEnd (s.trunk t).bitTicks)).setTrunk t ((s.trunk t).requestSent x)) := by
  change execRequestSent t s = _
  simp only [execRequestSent, hx, State.modifyTrunk_eq, State.trunk_await]
  exact if_pos ⟨on, live, unsent⟩

theorem exec_trunkByteReceived (b : Byte) (good : Bool) (on : s.powered = true) (hx : (s.trunk t).exchange = some x)
    (hears : x.hearsFrom (s.trunk t).bitTicks s.clock = some sent) :
    exec (.trunkByteReceived t b good) s =
      .next ((s.await (x.lineFree (s.trunk t).bitTicks sent)).setTrunk t { s.trunk t with
        exchange := some (x.hear ⟨(s.await (x.lineFree (s.trunk t).bitTicks sent)).clock, b, good⟩) }) := by
  change execTrunkByteReceived t b good s = _
  simp only [execTrunkByteReceived, hx, hears, if_pos on, State.modifyTrunk_eq, State.trunk_await]

theorem exec_trunkByteReceived_discarded (b : Byte) (good : Bool)
    (deaf : ∀ x, (s.trunk t).exchange = some x → x.hearsFrom (s.trunk t).bitTicks s.clock = none) :
    exec (.trunkByteReceived t b good) s = .next s := by
  change execTrunkByteReceived t b good s = _
  unfold execTrunkByteReceived
  split
  · rename_i hx
    rw [deaf _ hx]
  · rfl

end

end Sys2Proof.Machine

open Sys2Proof.Machine in
/-- Settles O47: the moment an exchange hears from decides between a byte heard and one discarded. -/
theorem requestIsSentAndRepliesHeard : Obligations.RequestIsSentAndRepliesHeard := by
  intro t s on x bitTicks
  refine ⟨fun e he live unsent => exec_requestSent on he live unsent, fun e sent b good he live hears => ?_,
    fun b good deaf => ?_⟩
  · have h := exec_trunkByteReceived b good on he (Exchange.hearsFrom_eq_some live hears)
    rw [Exchange.lineFree_eq] at h
    exact h
  · exact exec_trunkByteReceived_discarded b good fun e he => Exchange.hearsFrom_eq_none (deaf e he)

end

/-! # Proofs: how exchanges end -/

section
namespace Sys2Proof.Machine

/-! ## The end of an exchange (R87, R88, R99) -/

section
variable {s u : State} {t : TrunkId} {x : Exchange} {sent : Nat} {f : HeardFrame}

theorem exec_withheldExchangeEnd (on : s.powered = true) (hx : (s.trunk t).exchange = some x) (withheld : x.withheld = true) :
    exec (.withheldExchangeEnd t) s =
      .next (((s.atEnd t (x.startAt + x.kind.withheldLength * (s.trunk t).bitTicks)).handMiss t x.kind).afterExchange t
        x.kind false) := by
  change execWithheldExchangeEnd t s = _
  simp only [execWithheldExchangeEnd, hx]
  exact if_pos ⟨on, withheld⟩

section
variable (on : s.powered = true) (hx : (s.trunk t).exchange = some x) (live : x.withheld = false) (hs : x.sentAt = some sent)
include on hx live hs

theorem exec_replyTimeout (one : x.kind.oneReply = true) (silent : x.reply (s.trunk t).bitTicks sent = none) :
    exec (.replyTimeout t) s =
      .next (((s.atEnd t (sent + 48 * (s.trunk t).bitTicks)).handMiss t x.kind).afterExchange t x.kind false) := by
  change execReplyTimeout t s = _
  simp only [execReplyTimeout, hx, hs]
  exact if_pos ⟨on, live, one, by rw [silent]; rfl⟩

theorem exec_replyClosed (one : x.kind.oneReply = true) (heard : x.reply (s.trunk t).bitTicks sent = some f) :
    exec (.replyClosed t) s =
      .next (((s.atEnd t (f.closedAt (s.trunk t).bitTicks)).handReply t x f).1.afterExchange t x.kind
        ((s.atEnd t (f.closedAt (s.trunk t).bitTicks)).handReply t x f).2) := by
  change execReplyClosed t s = _
  simp only [execReplyClosed, hx, hs, heard]
  exact if_pos ⟨on, live, one⟩

theorem exec_pairExchangeEnd {stamp : Stamp} (hk : x.kind = .pair stamp) :
    exec (.pairExchangeEnd t) s =
      .next (((s.atEnd t (x.pairDue (s.trunk t).bitTicks sent)).tableResult stamp
        (combineResults (halfResult x.address (x.evenReply (s.trunk t).bitTicks sent)).1
          (halfResult (x.address + 1) (x.oddReply (s.trunk t).bitTicks sent)).1)).afterExchange t x.kind
        ((halfResult x.address (x.evenReply (s.trunk t).bitTicks sent)).2
          || (halfResult (x.address + 1) (x.oddReply (s.trunk t).bitTicks sent)).2)) := by
  change execPairExchangeEnd t s = _
  simp only [execPairExchangeEnd, hx, hs, hk]
  exact if_pos ⟨on, live⟩

theorem exec_rollcallEnd (hk : x.kind = .rollcall) :
    exec (.rollcallEnd t) s =
      .next ((if x.disturbed then s.atEnd t (sent + 808 * (s.trunk t).bitTicks)
        else (s.atEnd t (sent + 808 * (s.trunk t).bitTicks)).rollcallAnswers t
          (x.answer (s.trunk t).bitTicks sent)).afterExchange t x.kind false) := by
  change execRollcallEnd t s = _
  simp only [execRollcallEnd, hx, hs, hk]
  exact if_pos ⟨on, live⟩

end

/-! ## After an exchange (R93, R100) -/

/-- A result handed on leaves the settings, and so the halt-on-check mark, as they were. -/
theorem State.afterExchange_eq (h : u.settingsPart = s.settingsPart) (kind : ExchangeKind) (failed : Bool) :
    u.afterExchange t kind failed =
      if failed = true ∧ (match t with | .a => s.params.haltOnCheckA | .b => s.params.haltOnCheckB) = true then
        u.halt t .check (some kind.frame)
      else if (u.trunk t).state = .stopping then
        (u.setTrunk t { u.trunk t with state := .stopped, slot := none }).flagged .trunk
      else u := by
  have params : u.params = s.params := congrArg (·.1.params) h
  unfold State.afterExchange
  rw [params, State.enterStopped_eq]
  cases t <;> rfl

theorem State.settingsPart_atEnd (s : State) (t : TrunkId) (n : Nat) : (s.atEnd t n).settingsPart = s.settingsPart := by
  simp [State.clearExchange]

/-! ## The frame that answers (R87, R88) -/

section
variable {bt lo hi : Nat}

theorem Exchange.frameIn_eq_some (h : ∃ i, (framesOf bt x.heard)[i]? = some f
    ∧ (sent + lo * bt ≤ f.start ∧ f.start ≤ sent + hi * bt)
    ∧ ∀ (j : Nat) (g : HeardFrame), j < i → (framesOf bt x.heard)[j]? = some g →
      ¬(sent + lo * bt ≤ g.start ∧ g.start ≤ sent + hi * bt)) :
    x.frameIn bt sent lo hi = some f := by
  obtain ⟨i, found, begins, before⟩ := h
  obtain ⟨hlt, rfl⟩ := List.getElem?_eq_some_iff.1 found
  refine List.find?_eq_some_iff_getElem.2 ⟨by simpa using begins, i, hlt, rfl, fun j hj => ?_⟩
  have := before j _ hj (List.getElem?_eq_getElem (hj.trans hlt))
  simpa [imp_iff_not_or] using this

theorem Exchange.frameIn_eq_none (h : ∀ f ∈ framesOf bt x.heard, ¬(sent + lo * bt ≤ f.start ∧ f.start ≤ sent + hi * bt)) :
    x.frameIn bt sent lo hi = none :=
  List.find?_eq_none.2 fun f hf => by simpa using h f hf

theorem Exchange.evenReply_eq_some (h : x.frameIn bt sent 0 48 = some f) (early : f.endAt ≤ sent + 224 * bt) :
    x.evenReply bt sent = some f := by
  rw [evenReply, h, Option.filter_some, if_pos (by simpa using early)]

theorem Exchange.evenReply_eq_none (h : x.frameIn bt sent 0 48 = some f) (late : ¬f.endAt ≤ sent + 224 * bt) :
    x.evenReply bt sent = none := by
  rw [evenReply, h, Option.filter_some, if_neg (by simpa using late)]

theorem Exchange.evenReply_of_silent (h : x.frameIn bt sent 0 48 = none) : x.evenReply bt sent = none := by
  rw [evenReply, h]; rfl

theorem Exchange.pairDue_eq (x : Exchange) (bt sent : Nat) :
    x.pairDue bt sent = max (((x.frameIn bt sent 0 48).map (·.closedAt bt)).getD (sent + 48 * bt))
      (((x.oddReply bt sent).map (·.closedAt bt)).getD (sent + 256 * bt)) := by
  unfold Exchange.pairDue
  cases x.frameIn bt sent 0 48 <;> cases x.oddReply bt sent <;> rfl

end

/-! ## The judgement (R23, R90) -/

theorem Judged.isBadCheck_eq {α : Type} [DecidableEq α] (j : Judged α) : j.isBadCheck = decide (j = .badCheck) := by
  cases j <;> rfl

theorem Judged.toOption_eq_none {α : Type} {j : Judged α} (h : ∀ r, j ≠ .accepted r) : j.toOption = none := by
  cases j with
  | accepted a => exact absurd rfl (h a)
  | _ => rfl

theorem halfResult_none (address : Nat) : halfResult address none = (.miss, false) := rfl

theorem halfResult_some (address : Nat) (f : HeardFrame) :
    halfResult address (some f) =
      (stationResult f (judgeData address 0x02 f), decide (judgeData address 0x02 f = .badCheck)) := by
  rw [← Judged.isBadCheck_eq]; rfl

theorem combineResults_miss (r : StationResult) : combineResults r .miss = .miss := by cases r <;> rfl

end

end Sys2Proof.Machine

open Sys2Proof.Machine in
/-- Settles O50: each kind of exchange by the frames in its windows, with what follows every exchange taken out. -/
theorem exchangesHandOnTheirResults : Obligations.ExchangesHandOnTheirResults := by
  intro t s x on hx bt at_ ends
  have table : ∀ bad n stamp r, ((s.atEnd t n).tableResult stamp r).afterExchange t x.kind bad
      = ends bad ((at_ n).tableResult stamp r) := fun bad n stamp r =>
    State.afterExchange_eq ((settingsPart_tableResult ..).trans (s.settingsPart_atEnd t n)) x.kind bad
  have command : ∀ bad n r, ((s.atEnd t n).commandResult t r).afterExchange t x.kind bad
      = ends bad ((at_ n).commandResult t r) := fun bad n r =>
    State.afterExchange_eq ((settingsPart_commandResult ..).trans (s.settingsPart_atEnd t n)) x.kind bad
  refine ⟨fun withheld => ?_, fun sent live hs => ?_⟩
  · intro after
    have ended := exec_withheldExchangeEnd on hx withheld
    refine ⟨fun stamp hk => ?_, fun stamp hk => ?_, fun item hk => ?_, fun hk => ?_⟩
    · rw [← table]
      rcases hk with hk | hk <;> rw [ended, hk] <;> rfl
    · rw [ended, ← table, hk]; rfl
    · rw [ended, ← command, hk]; rfl
    · have alone := State.afterExchange_eq (t := t) (s.settingsPart_atEnd t (x.startAt + 848 * bt)) x.kind false
      rw [hk] at ended alone
      exact ended.trans (congrArg _ alone)
  intro begins first noneIn
  refine ⟨fun silent => ?_, fun f heard => ?_, fun stamp hk => ?_⟩
  · have noReply : x.reply bt sent = none := Exchange.frameIn_eq_none silent
    refine ⟨fun stamp hk => ?_, fun item hk => ?_⟩
    · rw [← table]
      rcases hk with hk | hk <;> rw [exec_replyTimeout on hx live hs (by rw [hk]; rfl) noReply, hk] <;> rfl
    · rw [exec_replyTimeout on hx live hs (by rw [hk]; rfl) noReply, ← command, hk]; rfl
  · intro u
    have reply : x.reply bt sent = some f := Exchange.frameIn_eq_some heard
    have closed := fun one => exec_replyClosed on hx live hs one reply
    refine ⟨fun stamp hk => ?_, fun stamp hk => ?_, fun item hk => ⟨fun r hr => ?_, fun hr => ?_⟩⟩
    all_goals
      rw [closed (by rw [hk]; rfl)]
      simp only [State.handReply, hk]
    · rw [Judged.isBadCheck_eq, ← hk]; exact congrArg _ (table ..)
    · rw [Judged.isBadCheck_eq, ← hk]; exact congrArg _ (table ..)
    · rw [hr, ← hk]; exact congrArg _ (command ..)
    · rw [Judged.toOption_eq_none hr, Judged.isBadCheck_eq, ← hk]; exact congrArg _ (command ..)
  · have ended := exec_pairExchangeEnd on hx live hs hk
    rw [table, Exchange.pairDue_eq, show (s.trunk t).bitTicks = bt from rfl] at ended
    refine ⟨fun noEven noOdd => ?_, fun f even noOdd => ?_, fun g noEven odd => ?_, fun f g even odd => ?_⟩
    · have even : x.frameIn bt sent 0 48 = none := Exchange.frameIn_eq_none noEven
      have odd : x.oddReply bt sent = none := Exchange.frameIn_eq_none noOdd
      rw [even, odd, Exchange.evenReply_of_silent even] at ended
      have later : max (sent + 48 * bt) (sent + 256 * bt) = sent + 256 * bt := max_eq_right (by omega)
      rw [← later]
      exact ended
    · have even : x.frameIn bt sent 0 48 = some f := Exchange.frameIn_eq_some even
      have odd : x.oddReply bt sent = none := Exchange.frameIn_eq_none noOdd
      rw [even, odd] at ended
      by_cases early : f.endAt ≤ sent + 224 * bt
      · rw [Exchange.evenReply_eq_some even early, halfResult_some] at ended
        rw [halfResult_none, Bool.or_false, combineResults_miss] at ended
        simp only [early, and_true]
        exact ended
      · rw [Exchange.evenReply_eq_none even early] at ended
        simp only [early, and_false, decide_false]
        exact ended
    · have even : x.frameIn bt sent 0 48 = none := Exchange.frameIn_eq_none noEven
      have odd : x.oddReply bt sent = some g := Exchange.frameIn_eq_some odd
      rw [even, odd, Exchange.evenReply_of_silent even, halfResult_some] at ended
      exact ended
    · intro j k early
      have even : x.frameIn bt sent 0 48 = some f := Exchange.frameIn_eq_some even
      have odd : x.oddReply bt sent = some g := Exchange.frameIn_eq_some odd
      rw [even, odd, Exchange.evenReply_eq_some even early, halfResult_some, halfResult_some, ← Bool.decide_or] at ended
      exact ended

end

/-! # Proofs: roll-calls -/

section
namespace Sys2Proof.Machine

/-! ## The answers of the windows (R89) -/

section
variable {x : Exchange} {bt sent a : Nat}

theorem Exchange.answer_eq_absent : x.answer bt sent a = .absent ↔ x.inWindow bt sent a = [] := by
  unfold Exchange.answer
  split
  · simp [*]
  · split_ifs <;> simp [*]
  · simp [*]

theorem Exchange.answer_eq_present :
    x.answer bt sent a = .present ↔ ∃ b, x.inWindow bt sent a = [b] ∧ b.value = 0x6A ∧ b.stopOk = true := by
  unfold Exchange.answer
  split
  · simp [*]
  · rename_i b hb
    rw [hb]
    split_ifs with first second
    · simp [first]
    · simp [second]
    · simp only [List.cons.injEq, and_true, exists_eq_left', false_iff]
      exact fun h => first h.symm
  · simp [*]

theorem Exchange.answer_eq_presentAttention :
    x.answer bt sent a = .presentAttention ↔ ∃ b, x.inWindow bt sent a = [b] ∧ b.value = 0x6B ∧ b.stopOk = true := by
  unfold Exchange.answer
  split
  · simp [*]
  · rename_i b hb
    rw [hb]
    split_ifs with first second
    · simp [first]
    · simp [second]
    · simp only [List.cons.injEq, and_true, exists_eq_left', false_iff]
      exact fun h => second h.symm
  · simp [*]

/-- The window of an address opens where that of the address before it closes. -/
theorem Exchange.inWindow_eq (x : Exchange) (bt sent : Nat) (h : 1 ≤ a) :
    x.inWindow bt sent a = x.heard.filter fun b =>
      sent + (36 + 12 * a) * bt ≤ b.start && b.start < sent + (48 + 12 * a) * bt := by
  have opens : 48 + 12 * (a - 1) = 36 + 12 * a := by omega
  rw [Exchange.inWindow, opens]

end

/-! ## The end of a roll-call (R89, R93) -/

theorem State.afterExchange_unfailed (s : State) (t : TrunkId) (kind : ExchangeKind) :
    s.afterExchange t kind false =
      if (s.trunk t).state = .stopping then
        (s.setTrunk t { s.trunk t with state := .stopped, slot := none }).flagged .trunk
      else s := by
  rw [State.afterExchange, if_neg (by simp), State.enterStopped_eq]

/-- The answers leave the state of each trunk as it is. -/
theorem State.trunkState_rollcallAnswers (s : State) (t r : TrunkId) (answer : Nat → Answer) :
    ((s.rollcallAnswers t answer).trunk r).state = (s.trunk r).state := by
  obtain ⟨line, -⟩ := LineWork.rollcallAnswers s t answer r
  rw [line]

/-! ## The answers at a bound entry (R135) -/

section
variable {s : State} {t : TrunkId} {l : Station} {answer : Nat → Answer}

theorem State.boundAnswers_unbound (h : (s.map l).enabled = false ∨ (s.map l).trunk ≠ t) :
    State.boundAnswers answer t s l = s := by
  refine if_neg fun hb => ?_
  obtain ⟨enabled, trunk⟩ := State.boundOn_iff.1 hb
  rcases h with h | h
  · simp [h] at enabled
  · exact h trunk

theorem contains_map_iff (answer : Nat → Answer) (as : List Nat) (v : Answer) :
    (as.map answer).contains v = decide (∃ a ∈ as, answer a = v) := by
  rw [List.contains_eq_mem]
  simp

theorem State.boundAnswers_bound (enabled : (s.map l).enabled = true) (trunk : (s.map l).trunk = t) :
    State.boundAnswers answer t s l =
      if ∃ a ∈ (s.map l).addresses, answer a = .presentAttention then
        (s.setImage l { s.image l with
          clash := decide (∃ a ∈ (s.map l).addresses, answer a = .clash) }).offerIfRoom t l .poll none .module
      else s.setImage l { s.image l with clash := decide (∃ a ∈ (s.map l).addresses, answer a = .clash) } := by
  have on : s.boundOn t l = true := State.boundOn_iff.2 ⟨enabled, trunk⟩
  subst trunk
  simp only [State.boundAnswers, if_pos on, contains_map_iff, decide_eq_true_eq, State.modifyImage_eq]
  rfl

end

/-! ## The answers at the Admission List (R137, R138, R144) -/

/-- The candidate has the address on the trunk. -/
def Candidate.isAt (c : Candidate) (t : TrunkId) (a : Nat) : Bool := c.trunk == t && c.address == a

theorem Candidate.isAt_eq (c : Candidate) (t : TrunkId) (a : Nat) : c.isAt t a = decide (c.trunk = t ∧ c.address = a) := by
  rw [Bool.eq_iff_iff]
  simp [Candidate.isAt]

section
variable {s : State} {t : TrunkId} {a : Nat} {answer : Nat → Answer} {c : Candidate}

theorem State.raiseCandidate_eq (s : State) :
    s.raiseCandidate = { s with
      ports := s.ports.map fun y => if y.profile = .operator then { y with flags := y.flags ||| .candidate } else y } := by
  refine congrArg (fun v => ({ s with ports := v } : State)) (ports_ext fun p => ?_)
  refine (tabulate_get _ _ _).trans ?_
  rw [Vector.get_eq_getElem, Vector.getElem_map]
  rfl

theorem State.admissionAnswer_shut (h : s.isBound t a = true ∨ a ∈ s.refused t) : State.admissionAnswer answer t s a = s :=
  if_pos (h.imp id (by simp))

section
variable (free : s.isBound t a = false ∧ a ∉ s.refused t)
include free

/-- At a candidate's address the answer changes the candidate, or takes it from the list with its third absence. -/
theorem State.admissionAnswer_known (found : s.candidates.find? (·.isAt t a) = some c) :
    State.admissionAnswer answer t s a =
      if 3 ≤ (c.answered (answer a)).absences then
        ({ s with candidates := s.candidates.filter (!·.isAt t a), overflow := false } : State).raiseCandidate
      else { s with candidates := s.candidates.map fun d => if d.isAt t a then d.answered (answer a) else d } := by
  have found : s.candidates.find? (fun c => c.trunk == t && c.address == a) = some c := found
  unfold State.admissionAnswer
  rw [if_neg (by simpa using free), found]
  rfl

/-- At any other address a station that is there is listed where there is room, or marks the overflow. -/
theorem State.admissionAnswer_unknown (h : s.candidates.find? (·.isAt t a) = none) :
    State.admissionAnswer answer t s a =
      if (answer a).isPresence then
        if s.candidates.length < 8 then
          ({ s with candidates := s.candidates ++ [s.newCandidate t a] } : State).raiseCandidate
        else if s.overflow then s
        else ({ s with overflow := true } : State).raiseCandidate
      else s := by
  have h : s.candidates.find? (fun c => c.trunk == t && c.address == a) = none := h
  unfold State.admissionAnswer
  rw [if_neg (by simpa using free), h]

end

theorem Answer.isPresence_iff {v : Answer} : v.isPresence = true ↔ v = .present ∨ v = .presentAttention := by
  cases v <;> simp [Answer.isPresence]

theorem Candidate.answered_of_presence {v : Answer} (h : v = .present ∨ v = .presentAttention) (c : Candidate) :
    c.answered v = { c with seen := min 65535 (c.seen + 1), absences := 0, clash := false } := by
  rcases h with rfl | rfl <;> rfl

end

end Sys2Proof.Machine

open Sys2Proof.Machine in
/-- Settles O52: what the windows answer, and then one entry and one address at a time. -/
theorem rollcallAnswersAreTaken : Obligations.RollcallAnswersAreTaken := by
  refine ⟨fun t s x sent on hx hk live hs => ?_, fun s t l answer => ?_, fun s t a answer => ?_⟩
  · intro bt u heard tells ends
    have ended := exec_rollcallEnd on hx live hs hk
    have atEnd : ((s.atEnd t (sent + 808 * bt)).trunk t).state = (s.trunk t).state := by rw [State.trunk_atEnd, if_pos rfl]
    rw [show (s.trunk t).bitTicks = bt from rfl] at ended
    refine ⟨fun disturbed => ?_, fun quiet => ⟨x.answer bt sent, ?_, fun a low high => ?_⟩⟩
    · rw [if_pos disturbed, State.afterExchange_unfailed, atEnd] at ended
      exact ended
    · rw [if_neg (by simp [quiet]), State.afterExchange_unfailed, State.trunkState_rollcallAnswers, atEnd] at ended
      exact ended
    · have window : x.inWindow bt sent a = heard a := x.inWindow_eq bt sent low
      rw [Exchange.answer_eq_absent, Exchange.answer_eq_present, Exchange.answer_eq_presentAttention, window]
      exact ⟨Iff.rfl, Iff.rfl, Iff.rfl⟩
  · intro image asks u
    refine ⟨State.boundAnswers_unbound, fun enabled trunk => ⟨fun attention => ?_, fun calm => ?_⟩⟩
    · exact (State.boundAnswers_bound enabled trunk).trans (if_pos attention)
    · exact (State.boundAnswers_bound enabled trunk).trans (if_neg calm)
  · intro free here after present known turns told
    have isAt : ∀ c : Candidate, c.isAt t a = here c := fun c => c.isAt_eq t a
    have raised : ∀ v, v.raiseCandidate = told v := State.raiseCandidate_eq
    refine ⟨fun shut => ?_, fun open_ listed => ?_, fun open_ unlisted => ?_⟩
    · refine State.admissionAnswer_shut ?_
      by_contra hn
      rw [not_or, Bool.not_eq_true] at hn
      exact shut hn
    · have ⟨c, found⟩ : ∃ c, s.candidates.find? (·.isAt t a) = some c := by
        obtain ⟨c, hc, hat⟩ := listed
        exact Option.isSome_iff_exists.1 (List.find?_isSome.2 ⟨c, hc, (isAt c).trans hat⟩)
      have mem := List.mem_of_find?_eq_some found
      have hereC : here c = true := (isAt c).symm.trans (List.find?_some (p := fun d : Candidate => d.isAt t a) found)
      have result := State.admissionAnswer_known (answer := answer) open_ found
      simp only [isAt, raised] at result
      refine ⟨fun there few => ?_, fun clash few => ?_, fun absent => ⟨fun few => ?_, fun third => ?_⟩⟩
      · simp only [Candidate.answered_of_presence there] at result
        exact result.trans (if_neg (by simp))
      · rw [clash] at result
        exact result.trans (if_neg (Nat.not_le.2 (Nat.lt_succ_of_le (few c mem))))
      · rw [absent] at result
        exact result.trans (if_neg (Nat.not_le.2 (Nat.succ_lt_succ (few c mem hereC))))
      · rw [absent] at result
        exact result.trans (if_pos (Nat.succ_le_succ (third c mem hereC).ge))
    · have none_found : s.candidates.find? (·.isAt t a) = none :=
        List.find?_eq_none.2 fun c hc hat => unlisted ⟨c, hc, (isAt c).symm.trans hat⟩
      have result := State.admissionAnswer_unknown (answer := answer) open_ none_found
      simp only [Answer.isPresence_iff, raised] at result
      refine ⟨fun there room => ?_, fun there full => ?_, fun gone => ?_⟩
      · exact result.trans ((if_pos there).trans (if_pos room))
      · exact result.trans ((if_pos there).trans (if_neg (Nat.not_lt.2 full)))
      · exact result.trans (if_neg gone)

end

/-! # Proofs: WRITE_SLOT -/

section
namespace Sys2Proof.Machine

/-! ## Its operands (R104, R105) -/

theorem entryOf_val (k : EntryIndex) : entryOf k.val = some k := by simp [entryOf]

theorem entryOf_of_le {n : Nat} (h : 96 ≤ n) : entryOf n = none := by simp [entryOf]; omega

theorem ruleAt_val (make : Station → SlotRule) (l : Station) : ruleAt make l.val = .rule (make l) := by
  rw [ruleAt, stationOf_val]

theorem ruleAt_of_le (make : Station → SlotRule) {index : Nat} (h : 120 ≤ index) : ruleAt make index = .badIndex := by
  rw [ruleAt, stationOf_of_le h]

theorem ruleOperand_of_le {rule : Nat} (h : 7 ≤ rule) (index : Nat) : ruleOperand rule index = .unknownRule := by
  match rule, h with
  | n + 7, _ => rfl

theorem ruleOperand_badIndex {rule index : Nat} (h : rule = 0 ∨ rule = 1 ∨ rule = 3) (out : 120 ≤ index) :
    ruleOperand rule index = .badIndex := by
  rcases h with rfl | rfl | rfl <;> exact ruleAt_of_le _ out

theorem slotLength_eq (r : SlotRule) (length : Nat) :
    slotLength r length = if length = 0 then 0 else max r.minimum (min length 60000) := by
  rw [slotLength, clampNat_eq_max_min r.minimum_le]

/-! ## The request by what its operands name (R105) -/

theorem State.carryWriteSlot_badEntry (s : State) {trunk entry : Nat} (h : 2 ≤ trunk ∨ 96 ≤ entry)
    (rule index length : Nat) :
    s.carryWriteSlot trunk entry rule index length = answerCode s .badIndex := by
  unfold State.carryWriteSlot
  split
  · rename_i t i ht hi
    rcases h with h | h
    · rw [trunkOf_of_le h] at ht; cases ht
    · rw [entryOf_of_le h] at hi; cases hi
  · rfl

section
variable {s : State} {t : TrunkId} {k : EntryIndex} {rule index : Nat} (length : Nat)

theorem State.carryWriteSlot_unknown (h : ruleOperand rule index = .unknownRule) :
    s.carryWriteSlot (trunkCode t) k.val rule index length = answerCode s .unknown := by
  simp only [State.carryWriteSlot, trunkOf_trunkCode, entryOf_val, h]

theorem State.carryWriteSlot_badIndex (h : ruleOperand rule index = .badIndex) :
    s.carryWriteSlot (trunkCode t) k.val rule index length = answerCode s .badIndex := by
  simp only [State.carryWriteSlot, trunkOf_trunkCode, entryOf_val, h]

theorem State.carryWriteSlot_rule {r : SlotRule} (h : ruleOperand rule index = .rule r) :
    s.carryWriteSlot (trunkCode t) k.val rule index length =
      answerOk (s.setSlotEntry t k { rule := r, length := slotLength r length })
        ([byte r.code, optByte (r.station.map (·.val))] ++ be2 (slotLength r length)) := by
  simp only [State.carryWriteSlot, trunkOf_trunkCode, entryOf_val, h]
  rfl

end

theorem exec_writeSlot {s : State} {p : PortId} {trunk entry rule index length : Nat} {r : Carried} (tag : Nat)
    (h : s.Configures p) (hr : (s.received p).carryWriteSlot trunk entry rule index length = r) :
    exec (.writeSlot p tag trunk entry rule index length) s =
      .next (r.1.answers p { tag := tag, request := 0x31, code := r.2.1, payload := r.2.2 }) := by
  subst hr
  exact congrArg _ (State.request_fourWrites s p tag 0x31 _ h)

end Sys2Proof.Machine

open Sys2Proof.Machine in
/-- Settles O41: the refusals in their order, and then the entry by the rule that its code and index name. -/
theorem slotWritesAreClamped : Obligations.SlotWritesAreClamped := by
  intro p tag index length s h answered
  refine ⟨fun trunk entry rule out => exec_writeSlot tag h (State.carryWriteSlot_badEntry _ out rule index length), fun t k =>
    ⟨fun rule unknown => exec_writeSlot tag h (State.carryWriteSlot_unknown length (ruleOperand_of_le unknown index)),
      fun rule named out => exec_writeSlot tag h (State.carryWriteSlot_badIndex length (ruleOperand_badIndex named out)), ?_⟩⟩
  intro applied writes
  have written : ∀ r, ruleOperand r.code index = .rule r →
      writes r.code r r.minimum (optByte (r.station.map (·.val))) := fun r operand => by
    refine (exec_writeSlot tag h (State.carryWriteSlot_rule length operand)).trans ?_
    rw [slotLength_eq]
    rfl
  refine ⟨fun l named => ?_, written .twinTail rfl, written .cmdOrQuiet rfl, written .rollcall rfl, written .quiet rfl⟩
  subst named
  exact ⟨written (.scan l) (ruleAt_val _ l), written (.twinHead l) (ruleAt_val _ l), written (.cmdOrScan l) (ruleAt_val _ l)⟩

end

/-! # Proofs: the start of a slot -/

section
namespace Sys2Proof.Machine

@[simp] theorem State.trunk_flagged (s : State) (f : FlagSet) (t : TrunkId) : (s.flagged f).trunk t = s.trunk t := by
  cases t <;> rfl

theorem State.setTrunk_flagged (s : State) (f : FlagSet) (t : TrunkId) (x : Trunk) :
    (s.flagged f).setTrunk t x = (s.setTrunk t x).flagged f := by
  cases t <;> rfl

/-! ## The choice of an entry (R106, R107) -/

theorem nextEntry_eq_none {sched : Schedule} (pointer : Option EntryIndex) (h : ∀ k, ¬inSweep sched k) :
    nextEntry sched pointer = none := by
  refine Option.eq_none_iff_forall_not_mem.2 fun ⟨k, wraps⟩ found => ?_
  obtain ⟨sweep, -⟩ := nextEntry_eq_some.1 found
  exact h k sweep

theorem Trunk.slotDue_eq (x : Trunk) :
    x.slotDue = (x.slot.map fun sl => sl.startAt + sl.length * (115200 / x.rate)).getD 0 := by
  unfold Trunk.slotDue
  cases x.slot <;> rfl

theorem Trunk.advance_eq (x : Trunk) (k : EntryIndex) (wrapped : Bool) :
    x.advance k wrapped =
      { x with
        pointer := some k
        sweeps := if wrapped then (x.sweeps + 1) % 4294967296 else x.sweeps
        lastMismatch := if wrapped = true ∧ x.sweepMismatch = false then none else x.lastMismatch
        sweepMismatch := if wrapped = true ∨ x.pointer = none then false else x.sweepMismatch } := by
  simp only [Trunk.advance, Option.isNone_iff_eq_none]

/-! ## The event (R106, R107, R108) -/

section
variable {s : State} {t : TrunkId} (on : s.powered = true) (running : (s.trunk t).state = .running)
  (free : (s.trunk t).exchange = none)
include on running free

theorem exec_slotStart_empty (empty : ∀ k, ¬inSweep (s.schedule t) k) :
    exec (.slotStart t) s =
      .next (((s.await (s.trunk t).slotDue).setTrunk t
        { s.trunk t with state := .stopped, slot := none, pointer := none }).flagged .trunk) := by
  change execSlotStart t s = _
  unfold execSlotStart
  rw [if_pos ⟨on, running, Option.isNone_iff_eq_none.2 free⟩]
  simp only [State.schedule_await, nextEntry_eq_none _ empty, State.enterStopped_eq, State.modifyTrunk_eq, State.trunk_flagged,
    State.setTrunk_flagged, State.trunk_setTrunk, if_true, State.setTrunk_setTrunk, State.trunk_await]

theorem exec_slotStart_takes {k : EntryIndex} {wraps : Bool} (takes : TakesSlot (s.schedule t) (s.trunk t).pointer k wraps) :
    exec (.slotStart t) s =
      .next (((s.await (s.trunk t).slotDue).setTrunk t { (s.trunk t).advance k wraps with
        slot := some
          { entry := k, startAt := (s.await (s.trunk t).slotDue).clock, length := ((s.schedule t).get k).length } }).slotFrame t
        k ((s.schedule t).get k).rule) := by
  change execSlotStart t s = _
  unfold execSlotStart
  rw [if_pos ⟨on, running, Option.isNone_iff_eq_none.2 free⟩]
  simp only [State.schedule_await, State.trunk_await, nextEntry_eq_some.2 takes, State.startSlot, State.modifyTrunk_eq]

end

end Sys2Proof.Machine

open Sys2Proof.Machine in
/-- Settles O44: by whether the schedule holds an entry to take. -/
theorem slotTakesTheNextEntry : Obligations.SlotTakesTheNextEntry := by
  intro t s on x bitTicks u running free
  have due : u = s.await x.slotDue := by rw [Trunk.slotDue_eq]; rfl
  rw [due]
  refine ⟨fun empty => exec_slotStart_empty on running free empty, fun k wraps takes => ?_⟩
  rw [exec_slotStart_takes on running free takes, Trunk.advance_eq]

end

/-! # Proofs: the command slot -/

section
namespace Sys2Proof.Machine

/-! ## The first member that a test picks -/

theorem findIdx_of_first {α : Type} {p : α → Bool} {q : List α} {i : Nat} {a : α} (hi : q[i]? = some a) (ha : p a = true)
    (before : ∀ j b, j < i → q[j]? = some b → p b = false) : q.findIdx p = i := by
  obtain ⟨hlt, rfl⟩ := List.getElem?_eq_some_iff.1 hi
  exact (List.findIdx_eq hlt).2 ⟨ha, fun j hj => before j _ hj (List.getElem?_eq_getElem (hj.trans hlt))⟩

/-! ## The head of the queue (R122) -/

section
variable {s : State} {t : TrunkId} {e : CommandEntry} {i : Nat}

theorem CommandEntry.waiting_eq_true : e.waiting = true ↔ e.stamp = none := Option.isNone_iff_eq_none

theorem CommandEntry.waiting_of_stamp {st : CommandStamp} (h : e.stamp = some st) : e.waiting = false := by
  rw [CommandEntry.waiting, h]; rfl

theorem State.mayBeSent_iff : s.mayBeSent e = true ↔ e.waiting = true ∧ (s.image e.index).state ≠ .lost := by
  simp [State.mayBeSent]

theorem State.not_mayBeSent_of_lost (h : (s.image e.index).state = .lost) : s.mayBeSent e = false :=
  Bool.eq_false_iff.2 fun sent => (State.mayBeSent_iff.1 sent).2 h

theorem State.inFlight_of_all_waiting (h : ∀ d ∈ s.queue t, d.waiting = true) : s.inFlight t = none :=
  List.find?_eq_none.2 fun d hd => by simp [h d hd]

theorem State.head_of_all_waiting (h : ∀ d ∈ s.queue t, d.waiting = true) :
    s.head t = (s.queue t).find? s.mayBeSent := by
  rw [State.head, State.inFlight_of_all_waiting h]

theorem State.head_of_inFlight (h : s.inFlight t = some e) : s.head t = some e := by
  rw [State.head, h]

theorem State.head_of_all_lost (h : ∀ d ∈ s.queue t, d.waiting = true ∧ (s.image d.index).state = .lost) :
    s.head t = none := by
  rw [State.head_of_all_waiting fun d hd => (h d hd).1, List.find?_eq_none]
  intro d hd
  rw [State.not_mayBeSent_of_lost (h d hd).2]
  exact Bool.false_ne_true

/-! ## What is sent (R123) -/

theorem State.slotFrame_command (k : EntryIndex) (clear : (s.trunk t).commandMark = false) (h : s.head t = some e) :
    s.slotFrame t k .cmdOrQuiet = s.commandSlot t e := by
  have head : s.commandHead t = some e := by rw [State.commandHead, clear]; exact h
  simp only [State.slotFrame, head]

theorem halfValue_eq (item : Item) (value : Option Nat) (twin odd : Bool) :
    halfValue item value twin odd =
      match item, value with
      | .cap, some v => some (if twin then (if odd then v / 2 else (v + 1) / 2) else v)
      | .hold, v => v
      | _, _ => none := by
  cases item with
  | cap =>
    cases value with
    | none => rfl
    | some v => cases twin <;> cases odd <;> rfl
  | hold => cases value <;> rfl
  | poll => rfl

theorem State.commandSlot_waiting (he : e.stamp = none) (at_ : (s.queue t).findIdx s.mayBeSent = i) :
    s.commandSlot t e =
      (s.setQueue t ((s.queue t).set i { e with stamp := some (s.commandStamp e.index) })).beginExchange t (.command e.item)
        (s.map e.index).address
        (commandRequest (s.map e.index).address e.item (halfValue e.item e.value (s.map e.index).twin false)) := by
  simp only [State.commandSlot, he, replaceFirst, at_]
  rfl

theorem State.commandSlot_odd {st : CommandStamp} (he : e.stamp = some st) (done : e.evenDone = true) :
    s.commandSlot t e =
      s.beginExchange t (.command e.item) (st.address + 1)
        (commandRequest (st.address + 1) e.item (halfValue e.item e.value true true)) := by
  simp only [State.commandSlot, he, done, if_true, Bool.true_or]

end

end Sys2Proof.Machine

open Sys2Proof.Machine in
/-- Settles O46: the head is found first, in flight or waiting, and then sent. -/
theorem commandSlotSendsTheHead : Obligations.CommandSlotSendsTheHead := by
  refine ⟨fun s t k l lost => ?_, fun s t k i e sound clear hi => ?_⟩
  · have idle := State.commandHead_eq_none (.inr (State.head_of_all_lost lost))
    exact ⟨State.slotFrame_cmdOrQuiet_idle k idle, State.slotFrame_cmdOrScan_idle k l idle⟩
  intro x sends twin taken value
  have begins : ∀ q a v, (s.setQueue t q).beginExchange t (.command e.item) a (commandRequest a e.item v) = sends q a v :=
    fun q a v => by
      simp only [State.setQueue_eq, State.beginExchange, State.modifyTrunk_eq, State.trunk_setTrunk, if_true,
        State.setTrunk_setTrunk, State.setTrunk_clock, commandRequest, opt2_eq]
      rfl
  refine ⟨fun waiting notLost noneInFlight before => ?_, fun st stamped done => ?_⟩
  · have at_ : (s.queue t).findIdx s.mayBeSent = i :=
      findIdx_of_first hi (State.mayBeSent_iff.2 ⟨waiting, notLost⟩) fun j d hj hd =>
        State.not_mayBeSent_of_lost (before j d hj hd)
    have head : s.head t = some e := by
      rw [State.head_of_all_waiting noneInFlight, List.find?_eq_getElem?_findIdx, at_, hi]
    rw [State.slotFrame_command k clear head, State.commandSlot_waiting (CommandEntry.waiting_eq_true.1 waiting) at_, begins,
      halfValue_eq]
    rfl
  · have head : s.head t = some e :=
      State.head_of_inFlight (State.inFlight_of_sound sound hi (CommandEntry.waiting_of_stamp stamped))
    have same : s.setQueue t (s.queue t) = s := (State.setQueue_eq s t _).trans (s.setTrunk_trunk t)
    rw [State.slotFrame_command k clear head, State.commandSlot_odd stamped done, halfValue_eq]
    exact (congrArg (State.beginExchange · t _ _ _) same.symm).trans (begins ..)

end

/-! # Proofs: an entry offered, and an exchange abandoned -/

section
namespace Sys2Proof.Machine

section
variable {s : State} {t : TrunkId} {l : Station} {item : Item}

/-! ## An entry offered to a queue, by its key (R120, R121) -/

theorem State.offerCommand_of_waiting {i : Nat} {old : CommandEntry} (unique : (s.queue t).Pairwise notSameWaiting)
    (hi : (s.queue t)[i]? = some old) (key : waitingKey l item old = true) (value : Option Nat) (o : Originator) :
    s.offerCommand t l item value o =
      some ((s.setQueue t ((s.queue t).set i (newEntry l item value o))).displaced old o) := by
  obtain ⟨found, at_⟩ := find_of_unique unique hi key
  simp only [State.offerCommand, found, replaceFirst, at_]

theorem State.offerCommand_of_free (free : ∀ d ∈ s.queue t, waitingKey l item d = false) (value : Option Nat)
    (o : Originator) :
    s.offerCommand t l item value o =
      if (s.queue t).length < 16 then some (s.setQueue t (s.queue t ++ [newEntry l item value o])) else none := by
  simp only [State.offerCommand, find_none_of free]

end

/-! ## An exchange that a halt abandons (R128) -/

section
variable {q : List CommandEntry} {i j : Nat} {e w : CommandEntry} {l : Station} {item : Item}

/-- No entry equal to a waiting one stands before it, so that `erase` takes the one at its place. -/
theorem erase_waiting_eq_eraseIdx (unique : q.Pairwise notSameWaiting) (hj : q[j]? = some w)
    (key : waitingKey l item w = true) : q.erase w = q.eraseIdx j := by
  refine List.erase_eq_eraseIdx_of_idxOf (findIdx_of_first hj (beq_self_eq_true w) fun k b before hb => ?_)
  refine beq_eq_false_iff_ne.2 fun same => before.ne ?_
  subst same
  rw [← (find_of_unique unique hb key).2, (find_of_unique unique hj key).2]

/-- A waiting entry behind the one in flight moves into its place. -/
theorem replaceInFlight_erase (sound : QueueSound q) (hi : q[i]? = some e) (flight : e.waiting = false)
    (hj : q[j]? = some w) (key : waitingKey l item w = true) (behind : i < j) :
    replaceFirst (q.erase w) (fun d => !d.waiting) w = (q.set i w).eraseIdx j := by
  have rest : QueueSound (q.eraseIdx j) := sound.of_sublist (List.eraseIdx_sublist ..)
  have kept : (q.eraseIdx j)[i]? = some e := (List.getElem?_eraseIdx_of_lt behind).trans hi
  rw [erase_waiting_eq_eraseIdx sound.pairwise hj key, replaceFirst, rest.findIdx_inFlight kept flight,
    List.eraseIdx_set_gt behind]

end

section
variable {s : State} {t : TrunkId} {i : Nat} {e : CommandEntry}

theorem State.waitAgain_of_waiting {j : Nat} {w : CommandEntry} (sound : QueueSound (s.queue t))
    (hi : (s.queue t)[i]? = some e) (flight : e.waiting = false) (hj : (s.queue t)[j]? = some w)
    (key : waitingKey e.index e.item w = true) (behind : i < j) :
    s.waitAgain t e = (s.setQueue t (((s.queue t).set i w).eraseIdx j)).displaced e w.originator := by
  simp only [State.waitAgain, (find_of_unique sound.pairwise hj key).1,
    replaceInFlight_erase sound hi flight hj key behind]

variable {st : CommandStamp}

theorem State.abandonCommand_of_old (hf : s.inFlight t = some e) (hst : e.stamp = some st)
    (h : st.generation ≠ (s.image e.index).generation) : s.abandonCommand t = s.endInFlight t e .dropped := by
  simp only [State.abandonCommand, hf, hst]
  exact if_pos (by simpa using h)

theorem State.abandonCommand_of_current (hf : s.inFlight t = some e) (hst : e.stamp = some st)
    (h : st.generation = (s.image e.index).generation) : s.abandonCommand t = s.waitAgain t e := by
  simp only [State.abandonCommand, hf, hst]
  exact if_neg (by simpa using h)

end

end Sys2Proof.Machine

open Sys2Proof.Machine in
/-- Settles O27, by whether an entry of the key waits. -/
theorem offeredEntryIsTakenByItsKey : Obligations.OfferedEntryIsTakenByItsKey := by
  intro s t l item value originator sound e taken
  refine ⟨fun i old hi key => State.offerCommand_of_waiting sound.pairwise hi key value originator, fun free => ?_⟩
  have offered := State.offerCommand_of_free free value originator
  exact ⟨fun room => offered.trans (if_pos room), fun full => offered.trans (if_neg full.not_lt)⟩

open Sys2Proof.Machine in
/-- Settles O43, by the generation and then by whether a newer entry of the key waits. -/
theorem abandonedCommandIsKept : Obligations.AbandonedCommandIsKept := by
  intro s t i e st sound hi stamped
  have flight : e.waiting = false := CommandEntry.waiting_of_stamp stamped
  have head : s.inFlight t = some e := State.inFlight_of_sound sound hi flight
  refine ⟨fun old => ?_, fun current => ⟨fun j w hj key behind => ?_, fun free => ?_⟩⟩
  · rw [State.abandonCommand_of_old head stamped old, State.endInFlight_of_sound sound hi flight]
  · rw [State.abandonCommand_of_current head stamped current, State.waitAgain_of_waiting sound hi flight hj key behind]
    rfl
  · rw [State.abandonCommand_of_current head stamped current, State.waitAgain_of_none free,
      State.setInFlight_of_sound sound hi flight]
    rfl

end

/-! # Proofs: CANCEL -/

section
namespace Sys2Proof.Machine

/-! ## Its operands (R130) -/

theorem Item.ofCode_code (it : Item) : Item.ofCode it.code = some it := by
  cases it <;> rfl

theorem Item.ofCode_unknown {item : Nat} (h : item = 0 ∨ 3 < item) : Item.ofCode item = none := by
  match item, h with
  | 0, _ => rfl
  | 1, h | 2, h | 3, h => omega
  | n + 4, _ => rfl

theorem ofAnotherPort_iff {p : PortId} {o : Originator} : ofAnotherPort p o = true ↔ ∃ q, o = .port q ∧ q ≠ p := by
  cases o <;> simp [ofAnotherPort]

/-! ## The request by what the queue holds (R130) -/

section
variable {s : State} {l : Station}

theorem State.carryCancel_unbound (h : (s.image l).state = .unbound) (p : PortId) (item : Nat) :
    s.carryCancel p l.val item = answerCode s .badIndex := by
  simp only [State.carryCancel, stationOf_val, h, if_true]

theorem State.carryCancel_unknown (bound : (s.image l).state ≠ .unbound) (p : PortId) {item : Nat}
    (h : item = 0 ∨ 3 < item) : s.carryCancel p l.val item = answerCode s .unknown := by
  simp only [State.carryCancel, stationOf_val, bound, if_false, Item.ofCode_unknown h]

variable {it : Item}

theorem State.carryCancel_of_waiting {e : CommandEntry} (bound : (s.image l).state ≠ .unbound)
    (found : (s.queue (s.map l).trunk).find? (waitingKey l it) = some e) (p : PortId) :
    s.carryCancel p l.val it.code =
      if ofAnotherPort p e.originator then answerCode s .held else answerOk (s.dropEntry (s.map l).trunk e) [] := by
  simp only [State.carryCancel, stationOf_val, bound, if_false, Item.ofCode_code, found]

theorem State.carryCancel_of_free (bound : (s.image l).state ≠ .unbound)
    (free : ∀ e ∈ s.queue (s.map l).trunk, waitingKey l it e = false) (p : PortId) :
    s.carryCancel p l.val it.code =
      if ∃ e ∈ s.queue (s.map l).trunk, e.index = l ∧ e.item = it then answerCode s .inFlight
      else answerCode s .none := by
  simp only [State.carryCancel, stationOf_val, bound, if_false, Item.ofCode_code, find_none_of free, List.any_eq_true,
    Bool.and_eq_true, beq_iff_eq]

end

end Sys2Proof.Machine

open Sys2Proof.Machine in
/-- Settles O31: the refusals in their order, then by whether an entry of the key waits and whose it is. -/
theorem cancelRemovesWaitingEntry : Obligations.CancelRemovesWaitingEntry := by
  intro p tag s h refusedBy
  have refused : ∀ {index item c}, (s.received p).carryCancel p index item = answerCode (s.received p) c →
      refusedBy index item c := fun carried => exec_operator_refused h rfl carried
  refine ⟨fun index item out => refused ?_, fun l =>
    ⟨fun item unbound => refused (State.carryCancel_unbound (s := s.received p) unbound p item),
      fun bound => ⟨fun item unknown => refused (State.carryCancel_unknown (s := s.received p) bound p unknown),
        fun it => ?_⟩⟩⟩
  · simp only [State.carryCancel, stationOf_of_le out]
  intro tr q sound
  have queue : (s.received p).queue tr = q := State.queue_received s p tr
  refine ⟨fun e he key => ?_, fun free => ?_⟩
  · obtain ⟨i, hi⟩ := List.mem_iff_getElem?.1 he
    have found : ((s.received p).queue tr).find? (waitingKey l it) = some e := by
      rw [queue]; exact (find_of_unique sound.pairwise hi key).1
    have carried := State.carryCancel_of_waiting (s := s.received p) bound found p
    refine ⟨fun o port other => refused (carried.trans (if_pos (ofAnotherPort_iff.2 ⟨o, port, other⟩))), fun own => ?_⟩
    rw [← queue]
    refine exec_operator_ok h rfl (carried.trans (if_neg fun other => ?_))
    obtain ⟨o, port, ne⟩ := ofAnotherPort_iff.1 other
    exact ne (own o port)
  · rw [← queue] at free ⊢
    have carried := State.carryCancel_of_free (s := s.received p) bound free p
    exact ⟨fun flies => refused (carried.trans (if_pos flies)),
      fun gone => refused (carried.trans (if_neg fun ⟨e, he, index, item⟩ => gone e he index item))⟩

end

/-! # Proofs: ADMIT, REJECT and FORGET -/

section
namespace Sys2Proof.Machine

/-! ## Addresses and candidates (R134, R136) -/

theorem isAddress_iff {a : Nat} : isAddress a = true ↔ 1 ≤ a ∧ a ≤ 62 := by simp [isAddress]

theorem isAddress_eq_false_iff {a : Nat} : isAddress a = false ↔ a = 0 ∨ 62 < a := by
  rw [← Bool.not_eq_true, isAddress_iff]
  omega

theorem Candidate.isAt_iff {c : Candidate} {t : TrunkId} {a : Nat} : c.isAt t a = true ↔ c.trunk = t ∧ c.address = a := by
  rw [c.isAt_eq, decide_eq_true_iff]

theorem State.isCandidate_iff {s : State} {t : TrunkId} {a : Nat} :
    s.isCandidate t a = true ↔ ∃ c ∈ s.candidates, c.isAt t a = true := List.any_eq_true

theorem State.removeCandidate_eq (s : State) (t : TrunkId) (a : Nat) :
    s.removeCandidate t a = { s with candidates := s.candidates.filter (!·.isAt t a), overflow := false } := rfl

/-- A twin stands at an even address other than 62 (R2). -/
theorem not_addressAllowed_iff {a twin : Nat} (h : isAddress a = true) :
    ¬addressAllowed a (twin ≠ 0) = true ↔ twin ≠ 0 ∧ (a % 2 = 1 ∨ a = 62) := by
  have station := isAddress_iff.1 h
  rw [addressAllowed_iff, decide_eq_true_iff]
  omega

/-- A map part that fails the uniqueness check shares an address with another entry on its trunk (R3). -/
theorem State.not_isUnique_iff {s : State} {l : Station} {m : MapPart} :
    ¬s.isUnique l m = true ↔
      ∃ k, k ≠ l ∧ (s.map k).trunk = m.trunk ∧ ∃ a ∈ m.addresses, a ∈ (s.map k).addresses := by
  rw [State.isUnique_iff]
  push Not
  exact exists_congr fun k => and_congr_right fun _ => and_congr_right fun _ => exists_congr fun a => and_comm

/-! ## The refused sets (R141) -/

theorem mem_insertAddress {a b : Nat} {as : List Nat} : b ∈ insertAddress a as ↔ b = a ∨ b ∈ as := by
  induction as with
  | nil => simp [insertAddress]
  | cons x xs ih =>
    unfold insertAddress
    split_ifs with below equal
    · simp
    · simp [equal]
    · rw [List.mem_cons, ih, List.mem_cons, or_left_comm]

theorem pairwise_insertAddress {a : Nat} {as : List Nat} (h : as.Pairwise (· < ·)) :
    (insertAddress a as).Pairwise (· < ·) := by
  induction as with
  | nil => simp [insertAddress]
  | cons x xs ih =>
    obtain ⟨least, sorted⟩ := List.pairwise_cons.1 h
    unfold insertAddress
    split_ifs with below equal
    · exact List.pairwise_cons.2 ⟨List.forall_mem_cons.2 ⟨below, fun b hb => below.trans (least b hb)⟩, h⟩
    · exact h
    · refine List.pairwise_cons.2 ⟨fun b hb => ?_, ih sorted⟩
      rcases mem_insertAddress.1 hb with rfl | hb
      · omega
      · exact least b hb

/-! ## The requests by what their operands name (R140 to R142) -/

/-- REJECT's own rule on a trunk (R141). -/
def State.carryReject (s : State) (t : TrunkId) (a : Nat) : Carried :=
  if isAddress a = false then answerCode s .badIndex
  else if s.isCandidate t a = false then answerCode s .none
  else answerOk ((s.removeCandidate t a).setRefused t (insertAddress a (s.refused t))) []

/-- FORGET's own rule on a trunk (R142). -/
def State.carryForget (s : State) (t : TrunkId) (a : Nat) : Carried :=
  if isAddress a = false then answerCode s .badIndex
  else if (s.refused t).contains a = false then answerCode s .none
  else answerOk (s.setRefused t ((s.refused t).filter (· ≠ a))) []

section
variable {s : State} {p : PortId} {tag trunk a : Nat} {t : TrunkId}

theorem exec_reject (s : State) (p : PortId) (tag trunk a : Nat) :
    exec (.reject p tag trunk a) s =
      .next (s.request p tag 0x44 .operator fun u => onTrunk u trunk (·.carryReject · a)) := rfl

theorem exec_forget (s : State) (p : PortId) (tag trunk a : Nat) :
    exec (.forget p tag trunk a) s =
      .next (s.request p tag 0x45 .operator fun u => onTrunk u trunk (·.carryForget · a)) := rfl

/-- A trunk that there is not is refused BAD_INDEX, and so is what every trunk refuses so (R183). -/
theorem onTrunk_badIndex {rule : State → TrunkId → Carried} (h : 2 ≤ trunk ∨ ∀ t, rule s t = answerCode s .badIndex) :
    onTrunk s trunk rule = answerCode s .badIndex := by
  rcases h with h | h
  · exact onTrunk_of_le h s rule
  · unfold onTrunk
    split
    · exact h _
    · rfl

theorem State.carryReject_station (h : isAddress a = true) :
    s.carryReject t a =
      if s.isCandidate t a = true then answerOk ((s.removeCandidate t a).setRefused t (insertAddress a (s.refused t))) []
      else answerCode s .none := by
  rw [State.carryReject, if_neg (by simp [h])]
  cases s.isCandidate t a <;> rfl

theorem State.carryForget_station (h : isAddress a = true) :
    s.carryForget t a =
      if a ∈ s.refused t then answerOk (s.setRefused t ((s.refused t).filter (· ≠ a))) [] else answerCode s .none := by
  rw [State.carryForget, if_neg (by simp [h]), List.contains_eq_mem]
  by_cases mem : a ∈ s.refused t <;> simp [mem]

/-- An index, a trunk or an address that there is not is refused BAD_INDEX (R140). -/
theorem State.carryAdmit_badIndex {index : Nat} (h : 120 ≤ index ∨ 2 ≤ trunk ∨ isAddress a = false) (twin qc : Nat) :
    s.carryAdmit trunk a index twin qc = answerCode s .badIndex := by
  unfold State.carryAdmit
  split
  · rename_i l t hl ht
    rcases h with h | h | h
    · rw [stationOf_of_le h] at hl; cases hl
    · rw [trunkOf_of_le h] at ht; cases ht
    · exact if_pos h
  · rfl

/-- At an address of a station ADMIT is judged in R140's order. -/
theorem State.carryAdmit_station (s : State) (t : TrunkId) (l : Station) (twin qc : Nat) (h : isAddress a = true) :
    s.carryAdmit (trunkCode t) a l.val twin qc =
      if ¬s.isCandidate t a = true then answerCode s .none
      else if ¬addressAllowed a (twin ≠ 0) = true then answerCode s .badIndex
      else if (s.image l).state ≠ .unbound then answerCode s .inUse
      else if ¬s.isUnique l (admittedPart t a (twin ≠ 0) qc) = true then answerCode s .duplicate
      else
        answerOk ((s.bindingChange l (admittedPart t a (twin ≠ 0) qc)).removeBoundCandidates (admittedPart t a (twin ≠ 0) qc))
          (admittedPart t a (twin ≠ 0) qc).bytes := by
  unfold State.carryAdmit
  rw [stationOf_val, trunkOf_trunkCode]
  simp only [Bool.not_eq_true]
  exact if_neg (by simp [h])

/-- The candidates that ADMIT binds leave the list, its own among them, which clears the overflow mark (R138, R140). -/
theorem State.removeBoundCandidates_bindingChange (known : s.isCandidate t a = true) (l : Station) (twin : Bool) (qc : Nat) :
    (s.bindingChange l (admittedPart t a twin qc)).removeBoundCandidates (admittedPart t a twin qc) =
      { s.bindingChange l (admittedPart t a twin qc) with
        candidates := s.candidates.filter fun c => !(c.trunk = t ∧ c.address ∈ (admittedPart t a twin qc).addresses)
        overflow := false } := by
  obtain ⟨candidates, -⟩ := s.bindingChange_candidates l (admittedPart t a twin qc)
  rw [State.removeBoundCandidates_eq _ _ (gone := fun c => c.trunk = t ∧ c.address ∈ (admittedPart t a twin qc).addresses)
    fun c => decide_eq_true_iff, candidates]
  have some_gone : (s.candidates.any fun c => c.trunk = t ∧ c.address ∈ (admittedPart t a twin qc).addresses) = true := by
    obtain ⟨c, hc, hat⟩ := State.isCandidate_iff.1 known
    obtain ⟨trunk, address⟩ := Candidate.isAt_iff.1 hat
    refine List.any_eq_true.2 ⟨c, hc, decide_eq_true ⟨trunk, ?_⟩⟩
    rw [address]
    cases twin <;> simp [MapPart.addresses, admittedPart]
  rw [some_gone, Bool.not_true, Bool.and_false]

end

end Sys2Proof.Machine

open Sys2Proof.Machine in
/-- Settles O53: the operands first, and then each request in the order of its rule. -/
theorem admissionRequestsAreJudged : Obligations.AdmissionRequestsAreJudged := by
  intro p tag address s h bad replies
  have rejected : ∀ {trunk c}, onTrunk (s.received p) trunk (·.carryReject · address) = answerCode (s.received p) c →
      replies (.reject p tag trunk address) 0x44 c := exec_operator_refused h (exec_reject ..)
  have forgotten : ∀ {trunk c}, onTrunk (s.received p) trunk (·.carryForget · address) = answerCode (s.received p) c →
      replies (.forget p tag trunk address) 0x45 c := exec_operator_refused h (exec_forget ..)
  have admitted : ∀ {trunk index twin qc c},
      (s.received p).carryAdmit trunk address index twin qc = answerCode (s.received p) c →
      replies (.admitCandidate p tag trunk address index twin qc) 0x43 c :=
    fun carried => exec_operator_refused h rfl carried
  refine ⟨fun trunk out => ⟨?_, ?_, fun index twin qc => ?_⟩,
    fun trunk index twin qc out => admitted (State.carryAdmit_badIndex (.inl out) twin qc), fun t good => ?_⟩
  · exact rejected (onTrunk_badIndex (out.imp_right fun out _ => if_pos (isAddress_eq_false_iff.2 out)))
  · exact forgotten (onTrunk_badIndex (out.imp_right fun out _ => if_pos (isAddress_eq_false_iff.2 out)))
  · exact admitted (State.carryAdmit_badIndex (.inr (out.imp_right isAddress_eq_false_iff.2)) twin qc)
  intro here known
  have isAt : ∀ c : Candidate, c.isAt t address = here c := fun c => c.isAt_eq t address
  have candidate : (s.received p).isCandidate t address = true ↔ known := by
    simp only [State.isCandidate_iff, isAt]; rfl
  have station : isAddress address = true := by
    rw [← Bool.not_eq_false, isAddress_eq_false_iff]; exact good
  have reject := (onTrunk_trunkCode (s.received p) t (·.carryReject · address)).trans (State.carryReject_station station)
  have forget := (onTrunk_trunkCode (s.received p) t (·.carryForget · address)).trans (State.carryForget_station station)
  refine ⟨fun unknown => ?_, fun listed ascending => ?_, fun free => ?_, fun refused => ?_, fun l twin qc => ?_⟩
  · exact rejected (reject.trans (if_neg (mt candidate.1 unknown)))
  · refine ⟨insertAddress address (s.refused t), pairwise_insertAddress ascending, fun a => mem_insertAddress, ?_⟩
    have carried := reject.trans (if_pos (candidate.2 listed))
    simp only [State.removeCandidate_eq, isAt, State.refused_received] at carried
    exact exec_operator_ok h (exec_reject ..) carried
  · exact forgotten (forget.trans (if_neg (by simpa using free)))
  · have carried := forget.trans (if_pos (by simpa using refused))
    rw [State.refused_received] at carried
    exact exec_operator_ok h (exec_forget ..) carried
  intro m odd shared admission
  have judged := State.carryAdmit_station (s.received p) t l twin qc station
  refine ⟨fun unknown => ?_, fun listed isOdd => ?_, fun listed even bound => ?_, fun listed even unbound twice => ?_,
    fun listed even unbound once => ?_⟩
  · exact admitted (judged.trans (if_pos (mt candidate.1 unknown)))
  all_goals rw [if_neg (not_not.2 (candidate.2 listed))] at judged
  · exact admitted (judged.trans (if_pos ((not_addressAllowed_iff station).2 isOdd)))
  all_goals rw [if_neg (mt (not_addressAllowed_iff station).1 even)] at judged
  · exact admitted (judged.trans (if_pos bound))
  all_goals rw [State.image_received, if_neg (not_not.2 unbound)] at judged
  · exact admitted (judged.trans (if_pos (State.not_isUnique_iff.2 twice)))
  · rw [if_neg (mt State.not_isUnique_iff.1 once), State.removeBoundCandidates_bindingChange (candidate.2 listed)] at judged
    exact exec_operator_ok h rfl judged

end

/-! # Proofs: the laws of the Admission List -/

section
namespace Sys2Proof.Machine

/-! ## What the laws of the Admission List speak of -/

/-- The candidates, the refused sets and the map parts. -/
def State.admissionPart (s : State) : List Candidate × List Nat × List Nat × Vector MapPart 120 :=
  (s.candidates, s.refusedA, s.refusedB, s.work.maps)

/-- An address is bound where it lies in the address set of an enabled entry on its trunk (R134). -/
theorem State.isBound_eq_false_iff {s : State} {t : TrunkId} {a : Nat} :
    s.isBound t a = false ↔ ∀ l, (s.map l).trunk = t → a ∉ (s.map l).addresses := by
  simp [State.isBound, mem_stations]

namespace State.AdmissionSound

section
variable {s u : State} {t : TrunkId} {a : Nat}

theorem of_part (h : u.admissionPart = s.admissionPart) (k : s.AdmissionSound) : u.AdmissionSound := by
  obtain ⟨candidates, refusedA, refusedB, maps⟩ : u.candidates = s.candidates ∧ u.refusedA = s.refusedA
      ∧ u.refusedB = s.refusedB ∧ u.work.maps = s.work.maps := by simpa [State.admissionPart] using h
  have bound : ∀ r a, u.isBound r a = s.isBound r a := fun r a => by simp only [State.isBound, State.map, maps]
  have refused : ∀ r, u.refused r = s.refused r := fun r => by cases r <;> assumption
  unfold State.AdmissionSound at k ⊢
  simpa only [candidates, refusedA, refusedB, bound, refused] using k

/-- A candidate is in range and neither bound nor refused (R136). -/
theorem candidate (h : s.AdmissionSound) {c : Candidate} (hc : c ∈ s.candidates) :
    c.Sound ∧ s.isBound c.trunk c.address = false ∧ c.address ∉ s.refused c.trunk := by
  obtain ⟨-, -, each, -⟩ := h
  exact each c hc

theorem refusedSound (h : s.AdmissionSound) (r : TrunkId) : RefusedSound (s.refused r) := by
  obtain ⟨-, -, -, ha, hb⟩ := h
  cases r
  · exact ha
  · exact hb

/-- Candidates that leave the list break no law, where those that stay are neither bound nor refused (R138). -/
theorem of_sublist (h : s.AdmissionSound) (stay : u.candidates.Sublist s.candidates)
    (free : ∀ c ∈ u.candidates, u.isBound c.trunk c.address = false ∧ c.address ∉ u.refused c.trunk)
    (refused : ∀ r, RefusedSound (u.refused r)) : u.AdmissionSound := by
  obtain ⟨few, distinct, each, -⟩ := h
  exact ⟨stay.length_le.trans few, distinct.sublist stay, fun c hc => ⟨(each c (stay.subset hc)).1, free c hc⟩,
    refused .a, refused .b⟩

/-- With no candidate and nothing refused the laws hold, as they do after either reset (R178, R179). -/
theorem of_empty (candidates : s.candidates = []) (refused : ∀ r, s.refused r = []) : s.AdmissionSound := by
  have empty : RefusedSound [] := ⟨List.Pairwise.nil, nofun⟩
  have ha : s.refusedA = [] := refused .a
  have hb : s.refusedB = [] := refused .b
  unfold State.AdmissionSound
  rw [candidates, ha, hb]
  exact ⟨Nat.zero_le _, List.Pairwise.nil, nofun, empty, empty⟩

/-! ## Roll-calls (R137) -/

theorem raiseCandidate (h : s.AdmissionSound) : s.raiseCandidate.AdmissionSound := of_part rfl h

/-- Candidates taken from the list, whatever becomes of the overflow mark. -/
theorem filter (h : s.AdmissionSound) (stays : Candidate → Bool) (overflow : Bool) :
    ({ s with candidates := s.candidates.filter stays, overflow := overflow } : State).AdmissionSound := by
  exact h.of_sublist List.filter_sublist (fun c hc => (h.candidate (List.mem_of_mem_filter hc)).2) h.refusedSound

/-- Candidates that change but for their trunk and address. -/
theorem turn (h : s.AdmissionSound) {f : Candidate → Candidate} (trunk : ∀ c, (f c).trunk = c.trunk)
    (address : ∀ c, (f c).address = c.address) (sound : ∀ c ∈ s.candidates, (f c).Sound) :
    ({ s with candidates := s.candidates.map f } : State).AdmissionSound := by
  obtain ⟨few, distinct, each, ha, hb⟩ := h
  refine ⟨by simpa using few, List.pairwise_map.2 (by simpa only [trunk, address] using distinct), fun c hc => ?_, ha, hb⟩
  obtain ⟨d, hd, rfl⟩ := List.mem_map.1 hc
  refine ⟨sound d hd, ?_⟩
  rw [trunk, address]
  exact (each d hd).2

/-- A candidate listed at a free address where there is room (R137). -/
theorem listed (h : s.AdmissionSound) (room : s.candidates.length < 8) (station : 1 ≤ a ∧ a ≤ 62)
    (free : s.isBound t a = false ∧ a ∉ s.refused t) (fresh : ∀ c ∈ s.candidates, ¬(c.trunk = t ∧ c.address = a)) :
    ({ s with candidates := s.candidates ++ [s.newCandidate t a] } : State).AdmissionSound := by
  obtain ⟨-, distinct, each, ha, hb⟩ := h
  refine ⟨by simpa using room, ?_, fun c hc => ?_, ha, hb⟩
  · exact List.pairwise_append.2 ⟨distinct, List.pairwise_singleton _ _, fun c hc d hd => by
      rw [List.mem_singleton.1 hd]; exact fresh c hc⟩
  · rcases List.mem_append.1 hc with hc | hc
    · exact each c hc
    · rw [List.mem_singleton.1 hc]
      exact ⟨⟨station, by simp [State.newCandidate], Nat.zero_le _⟩, free⟩

end

end State.AdmissionSound

theorem Candidate.answered_trunk (c : Candidate) (v : Answer) : (c.answered v).trunk = c.trunk := by cases v <;> rfl

theorem Candidate.answered_address (c : Candidate) (v : Answer) : (c.answered v).address = c.address := by cases v <;> rfl

/-- A candidate that an answer does not make absent a third time stays in range (R137). -/
theorem Candidate.Sound.answered {c : Candidate} {v : Answer} (h : c.Sound) (few : (c.answered v).absences ≤ 2) :
    (c.answered v).Sound := by
  obtain ⟨address, seen, -⟩ := h
  have again : 1 ≤ min 65535 (c.seen + 1) ∧ min 65535 (c.seen + 1) ≤ 65535 := by omega
  cases v with
  | present => exact ⟨address, again, few⟩
  | presentAttention => exact ⟨address, again, few⟩
  | absent => exact ⟨address, seen, few⟩
  | clash => exact ⟨address, seen, few⟩

section
variable {s : State} {t : TrunkId} {a : Nat}

/-- Two candidates at one address are the same one. -/
theorem State.AdmissionSound.eq_of_isAt {c d : Candidate} (h : s.AdmissionSound) (hc : c ∈ s.candidates)
    (hd : d ∈ s.candidates) (hct : c.isAt t a = true) (hdt : d.isAt t a = true) : c = d := by
  obtain ⟨-, distinct, -⟩ := h
  obtain ⟨ct, ca⟩ := Candidate.isAt_iff.1 hct
  obtain ⟨dt, da⟩ := Candidate.isAt_iff.1 hdt
  by_contra ne
  have symmetric : Std.Symm fun c d : Candidate => ¬(c.trunk = d.trunk ∧ c.address = d.address) :=
    ⟨fun _ _ apart same => apart ⟨same.1.symm, same.2.symm⟩⟩
  exact distinct.forall hc hd ne ⟨ct.trans dt.symm, ca.trans da.symm⟩

/-- The answer of one station address keeps the laws (R137). -/
theorem State.AdmissionSound.admissionAnswer (h : s.AdmissionSound) (answer : Nat → Answer) (station : 1 ≤ a ∧ a ≤ 62) :
    (State.admissionAnswer answer t s a).AdmissionSound := by
  by_cases free : s.isBound t a = false ∧ a ∉ s.refused t
  · cases found : s.candidates.find? (·.isAt t a) with
    | some c =>
      have mem := List.mem_of_find?_eq_some found
      have here : c.isAt t a = true := List.find?_some (p := fun d : Candidate => d.isAt t a) found
      rw [State.admissionAnswer_known free found]
      split
      · exact (h.filter _ _).raiseCandidate
      · rename_i few
        refine h.turn (fun d => ?_) (fun d => ?_) fun d hd => ?_
        · split <;> simp only [Candidate.answered_trunk]
        · split <;> simp only [Candidate.answered_address]
        · split
          · rename_i hat
            obtain rfl := h.eq_of_isAt mem hd here hat
            exact (h.candidate hd).1.answered (Nat.le_of_lt_succ (Nat.not_le.1 few))
          · exact (h.candidate hd).1
    | none =>
      rw [State.admissionAnswer_unknown free found]
      split_ifs with there room overflows
      · refine (h.listed room station free fun c hc hat => ?_).raiseCandidate
        exact List.find?_eq_none.1 found c hc (Candidate.isAt_iff.2 hat)
      · exact h
      · exact of_part (s := s) rfl h
      · exact h
  · rw [State.admissionAnswer_shut]
    · exact h
    · by_contra hn
      rw [not_or, Bool.not_eq_true] at hn
      exact free hn

/-- A roll-call's answers keep the laws, where those to the Station Table leave them alone. -/
theorem State.AdmissionSound.admissionAnswers (h : s.AdmissionSound) (answer : Nat → Answer) :
    (addresses.foldl (State.admissionAnswer answer t) s).AdmissionSound := by
  refine List.foldlRecOn _ _ h fun u hu a ha => hu.admissionAnswer answer ?_
  simp [addresses] at ha
  omega

end

end Sys2Proof.Machine
end

section
namespace Sys2Proof.Machine

/-! ## Requests (R138 to R142) -/

theorem State.refused_bindingChange (s : State) (l : Station) (m : MapPart) (r : TrunkId) :
    (s.bindingChange l m).refused r = s.refused r := by
  rw [(s.bindingChange_frame l m).1]
  cases r <;> rfl

namespace State.AdmissionSound

section
variable {s u : State} {l : Station} {m : MapPart} {t : TrunkId}

/-- An entry written with the map part, and the candidates that it binds taken from the list (R139, R140). -/
theorem removeBoundCandidates (h : s.AdmissionSound) (candidates : u.candidates = s.candidates)
    (refused : ∀ r, u.refused r = s.refused r) (maps : ∀ k, u.map k = if k = l then m else s.map k) :
    (u.removeBoundCandidates m).AdmissionSound := by
  rw [u.removeBoundCandidates_eq m (gone := fun c => c.trunk = m.trunk ∧ c.address ∈ m.addresses)
    fun c => decide_eq_true_iff, candidates]
  refine h.of_sublist List.filter_sublist (fun c hc => ?_) fun r => ?_
  · obtain ⟨mem, stays⟩ := List.mem_filter.1 hc
    obtain ⟨-, unbound, free⟩ := h.candidate mem
    refine ⟨State.isBound_eq_false_iff.2 fun k trunk bound => ?_, fun hr => free (refused _ ▸ hr)⟩
    change (u.map k).trunk = c.trunk at trunk
    change c.address ∈ (u.map k).addresses at bound
    rw [maps] at trunk bound
    split at trunk
    · rename_i hk
      rw [if_pos hk] at bound
      simp [trunk, bound] at stays
    · rename_i hk
      rw [if_neg hk] at bound
      exact State.isBound_eq_false_iff.1 unbound k trunk bound
  · have same := h.refusedSound r
    rwa [← refused] at same

theorem bindingChange (h : s.AdmissionSound) (l : Station) (m : MapPart) :
    ((s.bindingChange l m).removeBoundCandidates m).AdmissionSound :=
  h.removeBoundCandidates (s.bindingChange_candidates l m).1 (s.refused_bindingChange l m)
    fun k => s.map_bindingChange l k m

theorem writeMap (h : s.AdmissionSound) (l : Station) (m : MapPart) : (s.writeMap l m).AdmissionSound := by
  rw [State.writeMap_eq]
  split
  · exact h.bindingChange l m
  · exact h.removeBoundCandidates rfl (fun r => State.refused_setMap s l m r) fun k => State.map_setMap s l k m

theorem carryWriteMap (h : s.AdmissionSound) (index flags trunk address qc dpmin mark : Nat) :
    (s.carryWriteMap index flags trunk address qc dpmin mark).1.AdmissionSound := by
  unfold State.carryWriteMap
  split
  · dsimp only
    split_ifs
    · exact h
    · exact h
    · exact h.writeMap _ _
  · exact h

theorem carryAdmit (h : s.AdmissionSound) (trunk address index twin qc : Nat) :
    (s.carryAdmit trunk address index twin qc).1.AdmissionSound := by
  unfold State.carryAdmit
  split
  · dsimp only
    split_ifs
    case neg => exact h.bindingChange _ _
    all_goals exact h
  · exact h

/-- A sound refused set in which no candidate stands. -/
theorem setRefused (h : s.AdmissionSound) {as : List Nat} (sound : RefusedSound as)
    (free : ∀ c ∈ s.candidates, c.trunk = t → c.address ∉ as) : (s.setRefused t as).AdmissionSound := by
  refine h.of_sublist (by simp) (fun c hc => ?_) fun r => ?_
  · rw [State.setRefused_candidates] at hc
    obtain ⟨-, unbound, notRefused⟩ := h.candidate hc
    refine ⟨?_, ?_⟩
    · simpa only [State.isBound, State.map_setRefused] using unbound
    · rw [State.refused_setRefused]
      split
      · rename_i ht
        exact free c hc ht
      · exact notRefused
  · rw [State.refused_setRefused]
    split
    · exact sound
    · exact h.refusedSound r

theorem carryReject (h : s.AdmissionSound) (t : TrunkId) (a : Nat) : (s.carryReject t a).1.AdmissionSound := by
  unfold State.carryReject
  split_ifs with station
  · exact h
  · exact h
  · obtain ⟨ascending, range⟩ := h.refusedSound t
    have within := isAddress_iff.1 (Bool.not_eq_false _ ▸ station)
    refine (h.filter (!·.isAt t a) false).setRefused ⟨pairwise_insertAddress ascending, fun b hb => ?_⟩ fun c hc ht hin => ?_
    · rcases mem_insertAddress.1 hb with rfl | hb
      · exact within
      · exact range b hb
    · obtain ⟨mem, stays⟩ := List.mem_filter.1 hc
      obtain ⟨-, -, notRefused⟩ := h.candidate mem
      rcases mem_insertAddress.1 hin with here | refused
      · simp [Candidate.isAt_iff.2 ⟨ht, here⟩] at stays
      · exact notRefused (ht ▸ refused)

theorem carryForget (h : s.AdmissionSound) (t : TrunkId) (a : Nat) : (s.carryForget t a).1.AdmissionSound := by
  unfold State.carryForget
  split_ifs
  · exact h
  · exact h
  · obtain ⟨ascending, range⟩ := h.refusedSound t
    refine h.setRefused ⟨ascending.filter _, fun b hb => range b (List.mem_of_mem_filter hb)⟩ fun c hc ht hin => ?_
    obtain ⟨-, -, notRefused⟩ := h.candidate hc
    exact notRefused (ht ▸ List.mem_of_mem_filter hin)

theorem onTrunk {rule : State → TrunkId → Carried} (h : s.AdmissionSound) (k : ∀ t, (rule s t).1.AdmissionSound)
    (trunk : Nat) : (Machine.onTrunk s trunk rule).1.AdmissionSound := by
  unfold Machine.onTrunk
  split
  · exact k _
  · exact h

/-! ## Resets (R178, R179) -/

theorem startUp (s : State) (strap : PortId → Profile) : (s.startUp strap).AdmissionSound :=
  of_empty rfl fun r => by cases r <;> rfl

theorem networkReset (s : State) : s.networkReset.AdmissionSound := by
  unfold State.networkReset
  dsimp only
  split <;> exact of_empty rfl fun r => by cases r <;> rfl

end

end State.AdmissionSound

end Sys2Proof.Machine
end

section
namespace Sys2Proof.Machine

/-! ## What the results of exchanges leave (R7 to R17, R124 to R127, R135) -/

namespace TableFrame

theorem refl (s : State) : TableFrame s s := (WorkFrame.refl s).table

theorem offerPoll (s : State) (l : Station) : TableFrame s (s.offerPoll l) := (WorkFrame.offerIfRoom s _ l _ _ _).table

theorem pollIfAttention (s : State) (l : Station) (status : StatusSet) : TableFrame s (s.pollIfAttention l status) := by
  unfold State.pollIfAttention
  split
  · exact .offerPoll s l
  · exact .refl s

theorem tableResult (s : State) (stamp : Stamp) (r : StationResult) : TableFrame s (s.tableResult stamp r) := by
  unfold State.tableResult
  split
  · cases r with
    | good r status =>
      refine TableFrame.trans ?_ (.pollIfAttention _ _ status)
      split
      · exact (TableFrame.setImage s _ _).trans (WorkFrame.raiseAll _ _).table
      · exact .setImage s _ _
    | sensorFault status => exact (TableFrame.setImage s _ _).trans (.pollIfAttention _ _ status)
    | miss =>
      dsimp only [State.stationMiss]
      split
      · exact (TableFrame.setImage s _ _).trans (State.enterLost_frame _ _)
      · exact .setImage s _ _
  · exact .refl s

theorem chargeMiss (s : State) (t : TrunkId) (e : CommandEntry) : TableFrame s (s.chargeMiss t e) := by
  refine WorkFrame.table ?_
  unfold State.chargeMiss
  dsimp only
  split_ifs
  · exact .endInFlight s t e _
  · exact .setInFlight s t _
  · exact .waitAgain s t _

theorem storePoll (s : State) (e : CommandEntry) (status : StatusSet) : TableFrame s (s.storePoll e status) := by
  unfold State.storePoll
  split
  · split
    · exact .refl s
    · exact .setImage s _ _
  all_goals exact .refl s

theorem commandResult (s : State) (t : TrunkId) (r : Option CommandReply) : TableFrame s (s.commandResult t r) := by
  unfold State.commandResult
  split
  · exact .refl s
  · split
    · exact (WorkFrame.endInFlight s t _ _).table
    · unfold State.commandTaken
      split
      · exact .chargeMiss s t _
      · split_ifs
        · exact (WorkFrame.setInFlight s t _).table
        · exact (WorkFrame.endInFlight s t _ _).table
        · exact (TableFrame.storePoll s _ _).trans (WorkFrame.endInFlight _ t _ _).table

theorem handMiss (s : State) (t : TrunkId) (kind : ExchangeKind) : TableFrame s (s.handMiss t kind) := by
  cases kind with
  | command item => exact .commandResult s t none
  | rollcall => exact .refl s
  | _ => exact .tableResult s _ _

theorem handReply (s : State) (t : TrunkId) (x : Exchange) (f : HeardFrame) : TableFrame s (s.handReply t x f).1 := by
  unfold State.handReply
  split
  · exact .tableResult s _ _
  · exact .tableResult s _ _
  · exact .commandResult s t _
  · exact .refl s
  · exact .refl s

theorem boundAnswers (answer : Nat → Answer) (t : TrunkId) (s : State) (l : Station) :
    TableFrame s (State.boundAnswers answer t s l) := by
  unfold State.boundAnswers
  dsimp only
  split
  · split
    · exact (TableFrame.setImage s l _).trans (.offerPoll _ l)
    · exact .setImage s l _
  · exact .refl s

theorem foldl {α : Type} (f : State → α → State) (h : ∀ s x, TableFrame s (f s x)) (xs : List α) (s : State) :
    TableFrame s (xs.foldl f s) := by
  induction xs generalizing s with
  | nil => exact .refl s
  | cons x xs ih => exact (h s x).trans (ih (f s x))

end TableFrame

/-! ## Operations that leave the Admission List alone -/

theorem TableFrame.admissionPart {s t : State} (h : TableFrame s t) : t.admissionPart = s.admissionPart := by
  rw [h.1]; rfl

theorem WorkFrame.admissionPart {s t : State} (h : WorkFrame s t) : t.admissionPart = s.admissionPart := h.table.admissionPart

section
variable (s : State) (p : PortId) (t : TrunkId) (l : Station) (k : EntryIndex)

@[simp] theorem admissionPart_setPort (x : Port) : (s.setPort p x).admissionPart = s.admissionPart := rfl
@[simp] theorem admissionPart_eachPort (f : Port → Port) : (s.eachPort f).admissionPart = s.admissionPart := rfl
@[simp] theorem admissionPart_setImage (x : Image) : (s.setImage l x).admissionPart = s.admissionPart := rfl
@[simp] theorem admissionPart_setOffer (x : Option Offer) : (s.setOffer p x).admissionPart = s.admissionPart := rfl
@[simp] theorem admissionPart_setParams (x : Params) : (s.setParams x).admissionPart = s.admissionPart := rfl
@[simp] theorem admissionPart_await (n : Nat) : (s.await n).admissionPart = s.admissionPart := rfl
@[simp] theorem admissionPart_setTrunk (x : Trunk) : (s.setTrunk t x).admissionPart = s.admissionPart := by cases t <;> rfl
@[simp] theorem admissionPart_setSlotEntry (x : SlotEntry) : (s.setSlotEntry t k x).admissionPart = s.admissionPart := by
  cases t <;> rfl

@[simp] theorem admissionPart_leaveLive : (s.leaveLive p).admissionPart = s.admissionPart :=
  (WorkFrame.releaseOwned _ p).admissionPart

@[simp] theorem admissionPart_fail : (s.fail p).admissionPart = s.admissionPart := by
  simp only [State.fail, State.raise_eq, admissionPart_setPort]
  split <;> simp

@[simp] theorem admissionPart_enterStopped : (s.enterStopped t).admissionPart = s.admissionPart := by
  simp [State.enterStopped]

@[simp] theorem admissionPart_halt (kind : FaultKind) (frame : Option FrameKind) :
    (s.halt t kind frame).admissionPart = s.admissionPart := by
  rw [(WorkFrame.halt s t kind frame).admissionPart, admissionPart_setTrunk]

@[simp] theorem admissionPart_afterExchange (kind : ExchangeKind) (failed : Bool) :
    (s.afterExchange t kind failed).admissionPart = s.admissionPart := by
  unfold State.afterExchange
  split_ifs <;> simp

@[simp] theorem admissionPart_clearExchange : (s.clearExchange t).admissionPart = s.admissionPart := admissionPart_setTrunk ..

/-! ### The frame of a slot (R109 to R115) -/

@[simp] theorem admissionPart_beginExchange (kind : ExchangeKind) (a : Nat) (request : List Byte) :
    (s.beginExchange t kind a request).admissionPart = s.admissionPart := admissionPart_setTrunk ..

@[simp] theorem admissionPart_mismatch : (s.mismatch t k).admissionPart = s.admissionPart := by
  unfold State.mismatch
  dsimp only
  split <;> simp

@[simp] theorem admissionPart_scanSlot : (s.scanSlot t k l).admissionPart = s.admissionPart := by
  unfold State.scanSlot
  split_ifs <;> simp

@[simp] theorem admissionPart_headSlot : (s.headSlot t k l).admissionPart = s.admissionPart := by
  unfold State.headSlot
  dsimp only
  split_ifs
  · split <;> simp
  · simp
  · rfl

@[simp] theorem admissionPart_commandSlot (e : CommandEntry) : (s.commandSlot t e).admissionPart = s.admissionPart := by
  unfold State.commandSlot
  split <;> simp

@[simp] theorem admissionPart_slotFrame (rule : SlotRule) : (s.slotFrame t k rule).admissionPart = s.admissionPart := by
  cases rule with
  | cmdOrScan l => unfold State.slotFrame; dsimp only; split <;> simp
  | cmdOrQuiet => unfold State.slotFrame; dsimp only; split <;> simp
  | _ => simp [State.slotFrame]

/-! ### What requests carry out -/

@[simp] theorem admissionPart_helloTaken : (s.helloTaken p).admissionPart = s.admissionPart := by
  unfold State.helloTaken
  split <;> simp

@[simp] theorem admissionPart_refreshTaken : (s.refreshTaken p).admissionPart = s.admissionPart := by
  unfold State.refreshTaken
  split <;> [skip; skip; (split <;> [split; skip]); skip; skip] <;> simp [State.enterLive]

theorem admissionPart_carryStart : (s.carryStart t).1.admissionPart = s.admissionPart := by
  unfold State.carryStart
  split <;> [split; skip; skip; skip] <;> simp [answerOk, answerCode]

theorem admissionPart_carryStop : (s.carryStop t).1.admissionPart = s.admissionPart := by
  unfold State.carryStop
  split <;> [split; skip; skip; skip] <;> simp [answerOk]

theorem admissionPart_carryResume : (s.carryResume t).1.admissionPart = s.admissionPart := by
  unfold State.carryResume
  split <;> [split; skip; skip; skip] <;> simp [answerOk, answerCode]

theorem admissionPart_onTrunk {rule : State → TrunkId → Carried}
    (h : ∀ t, (rule s t).1.admissionPart = s.admissionPart) (trunk : Nat) :
    (onTrunk s trunk rule).1.admissionPart = s.admissionPart := by
  unfold onTrunk
  split
  · exact h _
  · rfl

theorem admissionPart_carryWriteSlot (trunk entry rule index length : Nat) :
    (s.carryWriteSlot trunk entry rule index length).1.admissionPart = s.admissionPart := by
  unfold State.carryWriteSlot
  split <;> [split; skip] <;> simp [answerOk, answerCode]

theorem admissionPart_carryWriteParam (identifier value : Nat) :
    (s.carryWriteParam identifier value).1.admissionPart = s.admissionPart := by
  have after : ∀ u : State, (u.afterParam identifier).admissionPart = u.admissionPart := fun u => by
    unfold State.afterParam
    split
    · exact u.rejudge_loses.1.admissionPart
    · exact u.rejudge_loses.1.admissionPart
    all_goals rfl
  unfold State.carryWriteParam
  split
  · exact after _
  · rfl

theorem admissionPart_carryOverride (index item value : Nat) :
    (s.carryOverride p index item value).1.admissionPart = s.admissionPart := by
  unfold State.carryOverride
  split
  · rfl
  · split
    · rfl
    · split
      · rfl
      · split_ifs
        · rfl
        · rfl
        · dsimp only [answerOk]
          split
          · exact (WorkFrame.placeOverride s _ p _ _).admissionPart
          · exact (WorkFrame.replaceOverride s _ p _ _ _).admissionPart

theorem admissionPart_carryRelease (index : Nat) : (s.carryRelease p index).1.admissionPart = s.admissionPart := by
  unfold State.carryRelease
  split
  · rfl
  · split
    · rfl
    · dsimp only
      split_ifs
      · rfl
      · rfl
      · exact (WorkFrame.offerIfRoom _ _ _ _ _ _).admissionPart

theorem admissionPart_carryCancel (index item : Nat) : (s.carryCancel p index item).1.admissionPart = s.admissionPart := by
  unfold State.carryCancel
  split
  · rfl
  · split
    · rfl
    · split
      · rfl
      · dsimp only
        split <;> split
        · rfl
        · exact (WorkFrame.dropEntry s _ _).admissionPart
        · rfl
        · rfl

theorem admissionPart_dispatchOnce : s.dispatchOnce.admissionPart = s.admissionPart := by
  cases hm : s.modeAtExpiry with
  | starting => rw [State.dispatchOnce_of_starting hm]
  | run => rw [State.dispatchOnce_of_run hm]; rfl
  | fallback => rw [State.dispatchOnce_of_fallback hm]; exact (WorkFrame.reachFallback s).admissionPart

theorem admissionPart_nextResponse : (s.nextResponse p).admissionPart = s.admissionPart := by
  unfold State.nextResponse
  split <;> rfl

end

end Sys2Proof.Machine
end

section
namespace Sys2Proof.Machine

/-! ## Events that leave the Admission List alone -/

/-- The command leaves the candidates, the refused sets and the map parts as they are. -/
abbrev LeavesAdmission (s : State) (o : Host.Outcome State Fault Refusal) : Prop :=
  Gives (fun t => t.admissionPart = s.admissionPart) o

theorem LeavesAdmission.take {s : State} {p : PortId} {tag code : Nat} {gate : State → PortId → Option ResponseCode}
    {restarts : Bool} {f : State → Carried} (h : ∀ u, (f u).1.admissionPart = u.admissionPart) :
    LeavesAdmission s (.next (s.take p tag code gate restarts f)) :=
  State.take_keeps (P := fun t => t.admissionPart = s.admissionPart) (fun _ _ _ _ hu => hu) (fun u _ hu => (h u).trans hu) rfl

section
variable (s : State) (t : TrunkId) (p : PortId)

theorem execReplyTimeout_admission : LeavesAdmission s (execReplyTimeout t s) := by
  unfold execReplyTimeout
  split
  · split
    · dsimp only
      split
      · simp [Gives, (TableFrame.handMiss _ t _).admissionPart]
      · rfl
    · rfl
  · rfl

theorem execReplyClosed_admission : LeavesAdmission s (execReplyClosed t s) := by
  unfold execReplyClosed
  split
  · split
    · dsimp only
      split
      · split
        · simp [Gives, (TableFrame.handReply _ t _ _).admissionPart]
        · rfl
      · rfl
    · rfl
  · rfl

theorem execPairExchangeEnd_admission : LeavesAdmission s (execPairExchangeEnd t s) := by
  unfold execPairExchangeEnd
  split
  · split
    · split
      · simp [Gives, (TableFrame.tableResult _ _ _).admissionPart]
      · rfl
    · rfl
  · rfl

theorem execWithheldExchangeEnd_admission : LeavesAdmission s (execWithheldExchangeEnd t s) := by
  unfold execWithheldExchangeEnd
  split
  · split
    · simp [Gives, (TableFrame.handMiss _ t _).admissionPart]
    · rfl
  · rfl

theorem execSlotStart_admission : LeavesAdmission s (execSlotStart t s) := by
  unfold execSlotStart
  split
  · dsimp only
    split <;> simp [Gives, State.startSlot]
  · rfl

theorem execRequestSent_admission : LeavesAdmission s (execRequestSent t s) := by
  unfold execRequestSent
  split <;> [split; skip] <;> simp [Gives]

theorem execTxStuck_admission : LeavesAdmission s (execTxStuck t s) := by
  unfold execTxStuck
  split <;> [split; skip] <;> simp [Gives]

theorem execEchoLost_admission : LeavesAdmission s (execEchoLost t s) := by
  unfold execEchoLost
  split <;> simp [Gives]

theorem execLineHeldSet_admission : LeavesAdmission s (execLineHeldSet t s) := by
  unfold execLineHeldSet
  split <;> simp [Gives]

theorem execLineHeldCleared_admission : LeavesAdmission s (execLineHeldCleared t s) := by
  unfold execLineHeldCleared
  split <;> simp [Gives]

theorem execTrunkByteReceived_admission (b : Byte) (ok : Bool) : LeavesAdmission s (execTrunkByteReceived t b ok s) := by
  unfold execTrunkByteReceived
  split
  · split
    · split <;> simp [Gives]
    · rfl
  · rfl

theorem execLongWindowExpiry_admission : LeavesAdmission s (execLongWindowExpiry p s) := by
  unfold execLongWindowExpiry
  split <;> [split; split; skip] <;> simp [Gives]

theorem execRefreshWindowExpiry_admission : LeavesAdmission s (execRefreshWindowExpiry p s) := by
  unfold execRefreshWindowExpiry
  split <;> [split; skip] <;> simp [Gives]

theorem execRequestDiscarded_admission : LeavesAdmission s (execRequestDiscarded p s) := by
  unfold execRequestDiscarded
  split <;> rfl

theorem execPortByteReceived_admission (b : Byte) : LeavesAdmission s (execPortByteReceived p b s) := by
  unfold execPortByteReceived
  split <;> rfl

theorem execDispatchExpiry_admission : LeavesAdmission s (execDispatchExpiry s) := by
  unfold execDispatchExpiry
  split
  · exact admissionPart_dispatchOnce (s.await _)
  · rfl

theorem execLimiterExpiry_admission : LeavesAdmission s (execLimiterExpiry s) := by
  unfold execLimiterExpiry
  split
  · dsimp only [Gives]
    split
    · exact (WorkFrame.evaluate _).admissionPart
    all_goals rfl
  · rfl

theorem execStaleAgeExpiry_admission (l : Station) : LeavesAdmission s (execStaleAgeExpiry l s) := by
  unfold execStaleAgeExpiry
  split <;> [split; skip] <;> rfl

theorem execHoldLimitExpiry_admission (l : Station) : LeavesAdmission s (execHoldLimitExpiry l s) := by
  unfold execHoldLimitExpiry
  split
  · split
    · exact (State.enterLost_frame _ l).admissionPart
    · rfl
  · rfl

theorem execSaveComplete_admission : LeavesAdmission s (execSaveComplete s) := by
  unfold execSaveComplete
  split <;> [split; skip] <;> rfl

/-- The command is one of those that write the candidates, the refused sets or the map parts. -/
def writesAdmission : Instr → Bool
  | .fullReset _ _ _ _ | .responseComplete _ | .rollcallEnd _ => true
  | .writeMap _ _ _ _ _ _ _ _ _ | .admitCandidate _ _ _ _ _ _ _ | .reject _ _ _ _ | .forget _ _ _ _ => true
  | _ => false

theorem exec_leavesAdmission {i : Instr} (h : writesAdmission i = false) : LeavesAdmission s (exec i s) := by
  have take : ∀ {p tag code gate restarts} {f : State → Carried}, (∀ u : State, (f u).1.admissionPart = u.admissionPart) →
      LeavesAdmission s (.next (s.take p tag code gate restarts f)) := LeavesAdmission.take
  have record : ∀ u r, (answerRecord u r).1.admissionPart = u.admissionPart := fun u r => by cases r <;> rfl
  cases i with
  | requestDiscarded p => exact execRequestDiscarded_admission s p
  | unknownRequest p tag code => exact take fun u => rfl
  | hello p tag => exact take fun u => admissionPart_helloTaken u p
  | refresh p tag => exact take fun u => admissionPart_refreshTaken u p
  | setWindow p tag seconds => exact take fun u => rfl
  | status p tag => exact take fun u => rfl
  | ack p tag flags => exact take fun u => rfl
  | setMask p tag flags => exact take fun u => rfl
  | setNotify p tag mode => exact take fun u => by split <;> rfl
  | readDispatch p tag selector =>
    exact take fun u => by
      split
      · exact record u _
      · exact record u _
      · rfl
  | readImage p tag first count step => exact take fun u => by split <;> rfl
  | readStation p tag index => exact take fun u => by split <;> rfl
  | readQueue p tag trunk => exact take fun u => by split <;> rfl
  | readCandidates p tag => exact take fun u => rfl
  | readOutcomes p tag => exact take fun u => rfl
  | readParam p tag identifier => exact take fun u => by split <;> rfl
  | fallbackClear p tag =>
    exact take fun u => by
      split
      · dsimp only [answerOk]
        split <;> rfl
      · rfl
  | postOffer p tag mode f cmin cmax rank ramp discharge charge => exact take fun u => by split <;> rfl
  | withdrawOffer p tag => exact take fun u => by split <;> rfl
  | writeSlot p tag trunk entry rule index length => exact take fun u => admissionPart_carryWriteSlot u _ _ _ _ _
  | writeParam p tag identifier value => exact take fun u => admissionPart_carryWriteParam u _ _
  | save p tag => exact take fun u => rfl
  | saveComplete => exact execSaveComplete_admission s
  | trunkStart p tag trunk => exact take fun u => admissionPart_onTrunk u (admissionPart_carryStart u) trunk
  | trunkStop p tag trunk => exact take fun u => admissionPart_onTrunk u (admissionPart_carryStop u) trunk
  | trunkResume p tag trunk => exact take fun u => admissionPart_onTrunk u (admissionPart_carryResume u) trunk
  | restart p tag => exact take fun u => rfl
  | override p tag index item value => exact take fun u => admissionPart_carryOverride u p _ _ _
  | release p tag index => exact take fun u => admissionPart_carryRelease u p _
  | cancel p tag index item => exact take fun u => admissionPart_carryCancel u p _ _
  | longWindowExpiry p => exact execLongWindowExpiry_admission s p
  | refreshWindowExpiry p => exact execRefreshWindowExpiry_admission s p
  | dispatchExpiry => exact execDispatchExpiry_admission s
  | limiterExpiry => exact execLimiterExpiry_admission s
  | staleAgeExpiry l => exact execStaleAgeExpiry_admission s l
  | holdLimitExpiry l => exact execHoldLimitExpiry_admission s l
  | slotStart t => exact execSlotStart_admission s t
  | requestSent t => exact execRequestSent_admission s t
  | replyTimeout t => exact execReplyTimeout_admission s t
  | replyClosed t => exact execReplyClosed_admission s t
  | pairExchangeEnd t => exact execPairExchangeEnd_admission s t
  | withheldExchangeEnd t => exact execWithheldExchangeEnd_admission s t
  | txStuck t => exact execTxStuck_admission s t
  | echoLost t => exact execEchoLost_admission s t
  | lineHeldSet t => exact execLineHeldSet_admission s t
  | lineHeldCleared t => exact execLineHeldCleared_admission s t
  | resetAsserted => rfl
  | portByteReceived p b => exact execPortByteReceived_admission s p b
  | trunkByteReceived t b ok => exact execTrunkByteReceived_admission s t b ok
  | _ => cases h

end

/-! ## The commands that write it -/

namespace State.AdmissionSound

section
variable {s : State} (h : s.AdmissionSound)
include h

theorem execResponseComplete (p : PortId) : Gives State.AdmissionSound (execResponseComplete p s) := by
  unfold Machine.execResponseComplete
  split
  · exact h
  · split
    · refine of_part (admissionPart_nextResponse _ p) ?_
      split
      · exact networkReset _
      · exact of_part (s := s) rfl h
    · exact h

/-- At the end of a roll-call the answers change the list address by address, the Station Table's own answers leaving it alone
(R89, R137). -/
theorem execRollcallEnd (t : TrunkId) : Gives State.AdmissionSound (execRollcallEnd t s) := by
  unfold Machine.execRollcallEnd
  split
  · split
    · split
      · refine of_part (admissionPart_afterExchange _ t _ _) ?_
        split
        · exact of_part (admissionPart_clearExchange (s.await _) t) h
        · refine admissionAnswers (of_part ?_ h) _
          exact (TableFrame.foldl _ (.boundAnswers _ t) stations _).admissionPart.trans
            (admissionPart_clearExchange (s.await _) t)
      · exact h
    · exact h
  · exact h

end

end State.AdmissionSound

theorem exec_keeps_admissionSound (i : Instr) (s : State) (h : s.AdmissionSound) : Gives State.AdmissionSound (exec i s) := by
  have take : ∀ {p tag code gate restarts} {f : State → Carried}, (∀ u : State, u.AdmissionSound → (f u).1.AdmissionSound) →
      (s.take p tag code gate restarts f).AdmissionSound := fun k =>
    State.take_keeps (fun _ _ _ _ hu => hu) (fun u _ hu => k u hu) h
  cases hi : writesAdmission i with
  | false => exact (exec_leavesAdmission s hi).mono fun t k => .of_part k h
  | true =>
    cases i with
    | fullReset p0 p1 p2 p3 => exact .startUp s _
    | responseComplete p => exact h.execResponseComplete p
    | rollcallEnd t => exact h.execRollcallEnd t
    | writeMap p tag index flags trunk address qc dpmin mark => exact take fun u hu => hu.carryWriteMap _ _ _ _ _ _ _
    | admitCandidate p tag trunk address index twin qc => exact take fun u hu => hu.carryAdmit _ _ _ _ _
    | reject p tag trunk address =>
      rw [exec_reject]
      exact take fun u hu => hu.onTrunk (fun t => hu.carryReject t address) trunk
    | forget p tag trunk address =>
      rw [exec_forget]
      exact take fun u hu => hu.onTrunk (fun t => hu.carryForget t address) trunk
    | _ => cases hi

theorem admissionPart_idle (s : State) : s.idle.admissionPart = s.admissionPart := by
  unfold State.idle
  split <;> [split; skip; skip] <;> rfl

end Sys2Proof.Machine

open Sys2Proof.Machine in
/-- Settles O57: a roll-call, four requests and the resets write what the laws speak of, and each keeps them. -/
theorem stepKeepsAdmissionSound : Obligations.StepKeepsAdmissionSound := by
  intro s t hs h
  cases hp : s.pending with
  | nil =>
    rw [step_idle hp] at h
    cases h
    exact .of_part (admissionPart_idle s) hs
  | cons c cs =>
    rw [step_front hp] at h
    exact (exec_keeps_admissionSound c { s with pending := cs } hs).of_eq h

end

/-! # Proofs: the laws of the ports -/

section
namespace Sys2Proof.Machine

/-! ## Ports that are told outcomes and have flags raised -/

/-- The port is `x` but for outcomes, overrun mark and flags: its list has not grown past eight, and no CANDIDATE flag has come
to a PLANT port. -/
structure Port.Told (x y : Port) : Prop where
  frame : y = { x with outcomes := y.outcomes, overrun := y.overrun, flags := y.flags }
  outcomes : x.outcomes.length ≤ 8 → y.outcomes.length ≤ 8
  candidate : x.profile = .plant → x.flags &&& FlagSet.candidate = 0 → y.flags &&& FlagSet.candidate = 0

theorem Port.Told.refl (x : Port) : x.Told x := ⟨rfl, id, fun _ => id⟩

theorem Port.Told.trans {x y z : Port} (h : x.Told y) (k : y.Told z) : x.Told z where
  frame := k.frame.trans (by rw [h.frame])
  outcomes hx := k.outcomes (h.outcomes hx)
  candidate plant hx := k.candidate (by rw [h.frame]; exact plant) (h.candidate plant hx)

theorem Port.Told.sound {x y : Port} (h : x.Told y) (hx : x.Sound) : y.Sound := by
  obtain ⟨failures, length, window, closed, outcomes, plant, owed⟩ := hx
  rw [h.frame]
  exact ⟨failures, length, window, closed, h.outcomes outcomes,
    fun hp => ⟨h.candidate hp (plant hp).1, (plant hp).2⟩, owed⟩

theorem candidate_or {a f : FlagSet} (ha : a &&& FlagSet.candidate = 0) (hf : f &&& FlagSet.candidate = 0) :
    (a ||| f) &&& FlagSet.candidate = 0 := by rw [BitVec.and_or_distrib_right, ha, hf]; rfl

/-- A flag other than CANDIDATE is raised. -/
theorem Port.Told.raise (x : Port) {f : FlagSet} (hf : f &&& FlagSet.candidate = 0) : x.Told (x.raise f) :=
  ⟨rfl, id, fun _ ha => candidate_or ha hf⟩

theorem Port.Told.addOutcome (x : Port) (o : OutcomeEntry) : x.Told (x.addOutcome o) where
  frame := rfl
  outcomes hx := by
    simp only [Port.addOutcome, List.length_append, List.length_singleton]
    split
    · rw [List.length_drop]; omega
    · omega
  candidate _ ha := by
    simp only [Port.addOutcome]
    split
    · exact candidate_or ha (by decide)
    · exact ha

/-- Between the two states the ports have been told outcomes and had flags raised, and nothing else has happened to them. -/
def PortsTold (s t : State) : Prop := ∀ p, (s.port p).Told (t.port p)

theorem PortsTold.sound {s t : State} (h : PortsTold s t) (hs : s.PortsSound) : t.PortsSound := fun p => (h p).sound (hs p)

/-- What the dropping of queue entries leaves in the ports. -/
theorem DropsReach.portsTold {gone : List CommandEntry} {told : PortId → List OutcomeEntry} {f : FlagSet} {s t : State}
    (h : DropsReach gone told f s t) (hf : f &&& FlagSet.candidate = 0) : PortsTold s t := fun p => by
  have fold : ∀ (os : List OutcomeEntry) (x : Port), x.Told (os.foldl Port.addOutcome x) := fun os => by
    induction os with
    | nil => exact .refl
    | cons o os ih => exact fun x => (Port.Told.addOutcome x o).trans (ih _)
  obtain ⟨g, hg, d⟩ := dropsReach_iff.1 h p
  rw [hg]
  refine (fold _ _).trans (.raise _ ?_)
  rcases d with ⟨-, rfl⟩ | ⟨-, rfl⟩
  · exact candidate_or (by decide) hf
  · exact hf

namespace PortsTold

section
variable {s t u : State}

theorem of_ports (h : ∀ p, t.port p = s.port p) : PortsTold s t := fun p => by rw [h]; exact .refl _

theorem refl (s : State) : PortsTold s s := of_ports fun _ => rfl

theorem trans (h : PortsTold s t) (k : PortsTold t u) : PortsTold s u := fun p => (h p).trans (k p)

/-- Tellings, and then what no port shows. -/
theorem then_ports (h : PortsTold s t) (k : ∀ p, u.port p = t.port p) : PortsTold s u := h.trans (of_ports k)

theorem foldl {α : Type} {f : State → α → State} (h : ∀ s x, PortsTold s (f s x)) (xs : List α) (s : State) :
    PortsTold s (xs.foldl f s) := by
  induction xs generalizing s with
  | nil => exact .refl s
  | cons x xs ih => exact (h s x).trans (ih (f s x))

theorem setPort (s : State) {p : PortId} {x : Port} (h : (s.port p).Told x) : PortsTold s (s.setPort p x) := fun q => by
  rw [State.port_setPort]
  split
  · rename_i hq; rw [hq]; exact h
  · exact .refl _

theorem eachPort (s : State) {f : Port → Port} (h : ∀ x : Port, x.Told (f x)) : PortsTold s (s.eachPort f) := fun q => by
  rw [State.port_eachPort]; exact h _

theorem raise (s : State) (p : PortId) {f : FlagSet} (hf : f &&& FlagSet.candidate = 0) : PortsTold s (s.raise p f) :=
  setPort s (.raise _ hf)

theorem raiseAll (s : State) {f : FlagSet} (hf : f &&& FlagSet.candidate = 0) : PortsTold s (s.raiseAll f) :=
  eachPort s fun x => .raise x hf

/-- CANDIDATE comes to the OPERATOR ports alone (R144). -/
theorem raiseCandidate (s : State) : PortsTold s s.raiseCandidate := eachPort s fun x => by
  split
  · rename_i operator
    exact ⟨rfl, id, fun plant => by rw [operator] at plant; cases plant⟩
  · exact .refl x

theorem raiseDispatch (s : State) : PortsTold s s.raiseDispatch := eachPort s fun x => by
  cases x.state
  case closed | shut => exact .refl x
  all_goals exact .raise x (by decide)

/-! ### Outcomes and queues (R120, R121, R129, R131) -/

theorem flagDrained (s : State) (p : PortId) : PortsTold s (s.flagDrained p) := by
  unfold State.flagDrained
  split
  · exact .raise s p (by decide)
  · exact .refl s

theorem deliver (s : State) (e : CommandEntry) (o : CommandEnd) : PortsTold s (s.deliver e o) := by
  unfold State.deliver
  split
  · exact .refl s
  · refine of_ports fun q => ?_
    unfold State.limiterOutcome
    split <;> [split; rfl; rfl; rfl] <;> simp
  · split
    · exact .flagDrained s _
    · exact ((setPort s (.addOutcome _ _)).then_ports fun q => State.port_judgeDelivery ..).trans (.flagDrained _ _)

theorem setQueue (s : State) (tr : TrunkId) (q : List CommandEntry) : PortsTold s (s.setQueue tr q) := of_ports (by simp)

theorem displaced (s : State) (e : CommandEntry) (o : Originator) : PortsTold s (s.displaced e o) := by
  unfold State.displaced
  split
  · exact .refl s
  · exact .deliver s e _

theorem offerCommand {tr : TrunkId} {l : Station} {item : Item} {value : Option Nat} {o : Originator}
    (h : s.offerCommand tr l item value o = some t) : PortsTold s t := by
  rcases s.offerCommand_cases tr l item value o with ⟨i, old, -, -, k⟩ | ⟨-, ⟨-, k⟩ | ⟨-, k⟩⟩ <;> rw [k] at h
  · cases h; exact (setQueue s tr _).trans (.displaced _ _ _)
  · cases h; exact setQueue s tr _
  · cases h

theorem offerIfRoom (s : State) (tr : TrunkId) (l : Station) (item : Item) (value : Option Nat) (o : Originator) :
    PortsTold s (s.offerIfRoom tr l item value o) := by
  unfold State.offerIfRoom
  cases h : s.offerCommand tr l item value o with
  | none => exact .refl s
  | some u => exact offerCommand h

theorem dropEntry (s : State) (tr : TrunkId) (e : CommandEntry) : PortsTold s (s.dropEntry tr e) :=
  (s.dropEntry_reaches tr e).portsTold (by decide)

theorem endInFlight (s : State) (tr : TrunkId) (e : CommandEntry) (o : CommandEnd) : PortsTold s (s.endInFlight tr e o) :=
  (setQueue s tr _).trans (.deliver _ e o)

theorem waitAgain (s : State) (tr : TrunkId) (e : CommandEntry) : PortsTold s (s.waitAgain tr e) := by
  unfold State.waitAgain
  split
  · exact (setQueue s tr _).trans (.displaced _ _ _)
  · exact .setQueue s tr _

/-! ### Trunks (R93, R94, R101, R116) -/

theorem setTrunk (s : State) (tr : TrunkId) (x : Trunk) : PortsTold s (s.setTrunk tr x) := of_ports (by simp)

theorem enterStopped (s : State) (tr : TrunkId) : PortsTold s (s.enterStopped tr) :=
  (setTrunk s tr _).trans (.raiseAll _ (by decide))

theorem abandonCommand (s : State) (tr : TrunkId) : PortsTold s (s.abandonCommand tr) := by
  unfold State.abandonCommand
  split
  · exact .refl s
  · split
    · exact .endInFlight s tr _ _
    · exact .waitAgain s tr _

theorem halt (s : State) (tr : TrunkId) (kind : FaultKind) (frame : Option FrameKind) : PortsTold s (s.halt tr kind frame) := by
  refine PortsTold.trans ?_ (.raiseAll _ (by decide))
  refine PortsTold.trans ?_ (.setTrunk _ tr _)
  unfold State.abandon
  split
  · exact .refl s
  · dsimp only
    split
    · exact (abandonCommand s tr).trans (.setTrunk _ tr _)
    · exact .setTrunk s tr _

theorem afterExchange (s : State) (tr : TrunkId) (kind : ExchangeKind) (failed : Bool) :
    PortsTold s (s.afterExchange tr kind failed) := by
  unfold State.afterExchange
  split_ifs
  · exact .halt s tr _ _
  · exact .enterStopped s tr
  · exact .refl s

theorem mismatch (s : State) (tr : TrunkId) (k : EntryIndex) : PortsTold s (s.mismatch tr k) := by
  unfold State.mismatch
  dsimp only
  split
  · exact .setTrunk s tr _
  · exact (setTrunk s tr _).trans (.raiseAll _ (by decide))

theorem beginExchange (s : State) (tr : TrunkId) (kind : ExchangeKind) (a : Nat) (request : List Byte) :
    PortsTold s (s.beginExchange tr kind a request) := .setTrunk s tr _

theorem scanSlot (s : State) (tr : TrunkId) (k : EntryIndex) (l : Station) : PortsTold s (s.scanSlot tr k l) := by
  unfold State.scanSlot
  split_ifs
  · exact .mismatch s tr k
  · exact .beginExchange s tr _ _ _
  · exact .refl s

theorem commandSlot (s : State) (tr : TrunkId) (e : CommandEntry) : PortsTold s (s.commandSlot tr e) := by
  unfold State.commandSlot
  split
  · exact (setQueue s tr _).trans (.beginExchange _ tr _ _ _)
  · exact .beginExchange s tr _ _ _

theorem headSlot (s : State) (tr : TrunkId) (k : EntryIndex) (l : Station) : PortsTold s (s.headSlot tr k l) := by
  unfold State.headSlot
  dsimp only
  split_ifs
  · split
    · exact (setTrunk s tr _).trans (.beginExchange _ tr _ _ _)
    · exact (beginExchange s tr _ _ _).trans (.mismatch _ tr k)
  · exact .mismatch s tr k
  · exact .refl s

theorem slotFrame (s : State) (tr : TrunkId) (k : EntryIndex) (rule : SlotRule) : PortsTold s (s.slotFrame tr k rule) := by
  cases rule with
  | scan l => exact .scanSlot s tr k l
  | twinHead l => exact .headSlot s tr k l
  | cmdOrScan l =>
    unfold State.slotFrame
    dsimp only
    split
    · exact .commandSlot s tr _
    · exact .scanSlot s tr k l
  | cmdOrQuiet =>
    unfold State.slotFrame
    dsimp only
    split
    · exact .commandSlot s tr _
    · exact .refl s
  | rollcall => exact .beginExchange s tr _ _ _
  | twinTail | quiet => exact .refl s

/-! ### Results of exchanges (R7 to R17, R124 to R127, R135, R137) -/

theorem setImage (s : State) (l : Station) (x : Image) : PortsTold s (s.setImage l x) := of_ports fun _ => rfl

theorem enterLost (s : State) (l : Station) : PortsTold s (s.enterLost l) := (s.enterLost_reaches l).1.portsTold (by decide)

theorem pollIfAttention (s : State) (l : Station) (status : StatusSet) : PortsTold s (s.pollIfAttention l status) := by
  unfold State.pollIfAttention
  split
  · exact .offerIfRoom s _ _ _ _ _
  · exact .refl s

theorem tableResult (s : State) (stamp : Stamp) (r : StationResult) : PortsTold s (s.tableResult stamp r) := by
  unfold State.tableResult
  split
  · cases r with
    | good r status =>
      refine PortsTold.trans ?_ (.pollIfAttention _ _ status)
      split
      · exact (setImage s _ _).trans (.raiseAll _ (by decide))
      · exact .setImage s _ _
    | sensorFault status => exact (setImage s _ _).trans (.pollIfAttention _ _ status)
    | miss =>
      dsimp only [State.stationMiss]
      split
      · exact (setImage s _ _).trans (.enterLost _ _)
      · exact .setImage s _ _
  · exact .refl s

theorem chargeMiss (s : State) (tr : TrunkId) (e : CommandEntry) : PortsTold s (s.chargeMiss tr e) := by
  unfold State.chargeMiss
  dsimp only
  split_ifs
  · exact .endInFlight s tr e _
  · exact .setQueue s tr _
  · exact .waitAgain s tr _

theorem storePoll (s : State) (e : CommandEntry) (status : StatusSet) : PortsTold s (s.storePoll e status) := by
  unfold State.storePoll
  split
  · split
    · exact .refl s
    · exact .setImage s _ _
  all_goals exact .refl s

theorem commandResult (s : State) (tr : TrunkId) (r : Option CommandReply) : PortsTold s (s.commandResult tr r) := by
  unfold State.commandResult
  split
  · exact .refl s
  · split
    · exact .endInFlight s tr _ _
    · unfold State.commandTaken
      split
      · exact .chargeMiss s tr _
      · split_ifs
        · exact .setQueue s tr _
        · exact .endInFlight s tr _ _
        · exact (storePoll s _ _).trans (.endInFlight _ tr _ _)

theorem handMiss (s : State) (tr : TrunkId) (kind : ExchangeKind) : PortsTold s (s.handMiss tr kind) := by
  cases kind with
  | command item => exact .commandResult s tr none
  | rollcall => exact .refl s
  | _ => exact .tableResult s _ _

theorem handReply (s : State) (tr : TrunkId) (x : Exchange) (f : HeardFrame) : PortsTold s (s.handReply tr x f).1 := by
  unfold State.handReply
  split
  · exact .tableResult s _ _
  · exact .tableResult s _ _
  · exact .commandResult s tr _
  · exact .refl s
  · exact .refl s

theorem boundAnswers (answer : Nat → Answer) (tr : TrunkId) (s : State) (l : Station) :
    PortsTold s (State.boundAnswers answer tr s l) := by
  unfold State.boundAnswers
  dsimp only
  split_ifs
  · exact (setImage s l _).trans (.offerIfRoom _ _ _ _ _ _)
  · exact .setImage s l _
  · exact .refl s

theorem admissionAnswer (answer : Nat → Answer) (tr : TrunkId) (s : State) (a : Nat) :
    PortsTold s (State.admissionAnswer answer tr s a) := by
  have listed : ∀ cs b, PortsTold s ({ s with candidates := cs, overflow := b } : State).raiseCandidate := fun cs b =>
    (of_ports fun _ => rfl : PortsTold s { s with candidates := cs, overflow := b }).trans (.raiseCandidate _)
  unfold State.admissionAnswer
  split
  · exact .refl s
  · split
    · split
      · exact listed _ _
      · exact of_ports fun _ => rfl
    · split_ifs
      · exact listed _ _
      · exact .refl s
      · exact listed _ _
      · exact .refl s

theorem rollcallAnswers (s : State) (tr : TrunkId) (answer : Nat → Answer) : PortsTold s (s.rollcallAnswers tr answer) :=
  (foldl (.boundAnswers answer tr) stations s).trans (.foldl (.admissionAnswer answer tr) addresses _)

/-! ### Ports that leave LIVE (R82, R170) -/

theorem releaseOverride (s : State) (l : Station) (ov : Override) : PortsTold s (s.releaseOverride l ov) := by
  have offer : ∀ u, PortsTold s u →
      PortsTold s ((u.modifyImage l fun x => { x with override := none }).offerIfRoom (s.map l).trunk l ov.item none .module) :=
    fun u h => (h.trans (.setImage u l _)).trans (.offerIfRoom _ _ _ _ _ _)
  unfold State.releaseOverride
  refine offer _ ?_
  split
  · exact .dropEntry s _ _
  · exact (s.reportRelease_reaches l ov).portsTold (by decide)

theorem leaveLive (s : State) (p : PortId) : PortsTold s (s.leaveLive p) := by
  refine (of_ports fun _ => rfl : PortsTold s (s.setOffer p none)).trans
    (foldl (f := State.releaseIfOwned p) (fun u l => ?_) stations _)
  unfold State.releaseIfOwned
  split
  · split
    · exact .releaseOverride u l _
    · exact .refl u
  · exact .refl u

end

end PortsTold

end Sys2Proof.Machine
end

section
namespace Sys2Proof.Machine

/-! ## What requests carry out, and dispatches -/

namespace PortsTold

section
variable (s : State) (p : PortId)

theorem onTrunk {rule : State → TrunkId → Carried} (h : ∀ t, PortsTold s (rule s t).1) (trunk : Nat) :
    PortsTold s (Machine.onTrunk s trunk rule).1 := by
  unfold Machine.onTrunk
  split
  · exact h _
  · exact .refl s

theorem carryStart (t : TrunkId) : PortsTold s (s.carryStart t).1 := by
  unfold State.carryStart
  split <;> [split; skip; skip; skip]
  case isFalse => exact .setTrunk s t _
  all_goals exact .refl s

theorem carryStop (t : TrunkId) : PortsTold s (s.carryStop t).1 := by
  unfold State.carryStop
  split
  · split
    · exact .setTrunk s t _
    · exact .enterStopped s t
  · exact .enterStopped s t
  all_goals exact .refl s

theorem carryResume (t : TrunkId) : PortsTold s (s.carryResume t).1 := by
  unfold State.carryResume
  split <;> [split; skip; skip; skip]
  case isFalse => exact .setTrunk s t _
  all_goals exact .refl s

theorem bindingChange (l : Station) (m : MapPart) : PortsTold s (s.bindingChange l m) :=
  (s.bindingChange_reaches l m).portsTold (by split <;> decide)

theorem removeBoundCandidates (m : MapPart) : PortsTold s (s.removeBoundCandidates m) := by
  unfold State.removeBoundCandidates
  dsimp only
  split <;> exact of_ports fun _ => rfl

theorem carryWriteMap (index flags trunk address qc dpmin mark : Nat) :
    PortsTold s (s.carryWriteMap index flags trunk address qc dpmin mark).1 := by
  unfold State.carryWriteMap
  split
  · dsimp only
    split_ifs
    · exact .refl s
    · exact .refl s
    · rw [answerOk, State.writeMap]
      refine PortsTold.trans ?_ (.removeBoundCandidates _ _)
      split
      · exact .bindingChange s _ _
      · exact of_ports fun _ => rfl
  · exact .refl s

theorem carryAdmit (trunk address index twin qc : Nat) : PortsTold s (s.carryAdmit trunk address index twin qc).1 := by
  unfold State.carryAdmit
  split
  · dsimp only
    split_ifs
    case neg => exact (PortsTold.bindingChange s _ _).trans (.removeBoundCandidates _ _)
    all_goals exact .refl s
  · exact .refl s

theorem carryWriteSlot (trunk entry rule index length : Nat) :
    PortsTold s (s.carryWriteSlot trunk entry rule index length).1 := by
  unfold State.carryWriteSlot
  split
  · split
    · exact .refl s
    · exact .refl s
    · exact of_ports (by simp [answerOk])
  · exact .refl s

/-- The entries that a write takes to LOST bring DROPPED outcomes and STATION flags (R14, R15). -/
theorem rejudge : PortsTold s s.rejudge := by
  obtain ⟨-, -, -, -, reaches⟩ := s.rejudge_loses
  exact reaches.portsTold (by split <;> decide)

theorem carryWriteParam (identifier value : Nat) : PortsTold s (s.carryWriteParam identifier value).1 := by
  unfold State.carryWriteParam
  split
  · rename_i x _
    have params : PortsTold s (s.setParams x) := of_ports fun _ => rfl
    dsimp only [answerOk, State.afterParam]
    split
    · exact params.trans (.rejudge _)
    · exact params.trans (.rejudge _)
    all_goals exact params
  · exact .refl s

theorem placeOverride (l : Station) (item : Item) (value : Option Nat) : PortsTold s (s.placeOverride l p item value) := by
  have dropped : PortsTold s (s.dropLimiterCap (s.map l).trunk l) := by
    unfold State.dropLimiterCap
    split
    · exact .dropEntry s _ _
    · exact .refl s
  exact (dropped.then_ports (by simp [State.setOverride])).trans (.offerIfRoom _ _ _ _ _ _)

theorem replaceOverride (l : Station) (old item : Item) (value : Option Nat) :
    PortsTold s (s.replaceOverride l p old item value) := by
  unfold State.replaceOverride
  dsimp only
  split
  · exact (offerIfRoom s _ _ _ _ _).trans (.setImage _ l _)
  · exact ((offerIfRoom s _ _ _ _ _).trans (.offerIfRoom _ _ _ _ _ _)).trans (.setImage _ l _)

theorem carryOverride (index item value : Nat) : PortsTold s (s.carryOverride p index item value).1 := by
  unfold State.carryOverride
  split
  · exact .refl s
  · split
    · exact .refl s
    · split
      · exact .refl s
      · split_ifs
        · exact .refl s
        · exact .refl s
        · dsimp only [answerOk]
          split
          · exact .placeOverride s p _ _ _
          · exact .replaceOverride s p _ _ _ _

theorem carryRelease (index : Nat) : PortsTold s (s.carryRelease p index).1 := by
  unfold State.carryRelease
  split
  · exact .refl s
  · split
    · exact .refl s
    · dsimp only
      split_ifs
      · exact .refl s
      · exact .refl s
      · exact (setImage s _ _).trans (.offerIfRoom _ _ _ _ _ _)

theorem carryCancel (index item : Nat) : PortsTold s (s.carryCancel p index item).1 := by
  unfold State.carryCancel
  split
  · exact .refl s
  · split
    · exact .refl s
    · split
      · exact .refl s
      · dsimp only
        split <;> split
        · exact .refl s
        · exact .dropEntry s _ _
        · exact .refl s
        · exact .refl s

/-! ### The limiter and the dispatch (R47 to R50, R67 to R76) -/

theorem evaluate : PortsTold s s.evaluate := by
  refine foldl (f := State.evaluateEntry) (fun u l => ?_) stations s
  unfold State.evaluateEntry
  split
  · split
    · unfold State.carryOut
      split
      · exact of_ports fun _ => rfl
      · split
        · rename_i taken
          exact (offerCommand taken).then_ports fun _ => rfl
        · exact of_ports fun _ => rfl
    · exact .refl u
  · exact .refl u

theorem enterFallback : PortsTold s s.enterFallback := by
  have fallback : PortsTold s s.fallbackRaised :=
    (of_ports fun _ => rfl : PortsTold s { s with mode := .fallback, clearMark := false }).trans (.raiseAll _ (by decide))
  have cleared : ∀ u : State, PortsTold u { u with limits := Vector.replicate 120 LimitEntry.cleared } := fun u =>
    of_ports fun _ => rfl
  refine (fallback.trans (foldl (f := State.releaseCap) (fun u l => ?_) stations _)).trans (cleared _)
  unfold State.releaseCap
  split
  · exact .offerIfRoom u _ _ _ _ _
  · exact .offerIfRoom u _ _ _ _ _
  all_goals exact .refl u

theorem dispatchOnce : PortsTold s s.dispatchOnce := by
  have publish : ∀ (u : State) r, PortsTold s u → PortsTold s (u.publish r) := fun u r h => by
    refine PortsTold.trans ?_ (.raiseDispatch _)
    exact h
  cases hm : s.modeAtExpiry with
  | starting => rw [State.dispatchOnce_of_starting hm]; exact .refl s
  | run => rw [State.dispatchOnce_of_run hm]; exact publish _ _ (of_ports fun _ => rfl)
  | fallback =>
    rw [State.dispatchOnce_of_fallback hm]
    refine publish _ _ ?_
    unfold State.reachFallback
    split
    · exact of_ports fun _ => rfl
    · exact .enterFallback s

end

end PortsTold

/-! ## The answering of a port, its supervision, and resets -/

namespace State.PortsSound

section
variable {s : State} {p : PortId}

theorem told {t : State} (h : s.PortsSound) (k : PortsTold s t) : t.PortsSound := k.sound h

theorem of_ports {t : State} (h : s.PortsSound) (k : ∀ q, t.port q = s.port q) : t.PortsSound := h.told (.of_ports k)

theorem setPort (h : s.PortsSound) {x : Port} (hx : x.Sound) : (s.setPort p x).PortsSound := fun q => by
  rw [State.port_setPort]
  split
  · exact hx
  · exact h q

/-- A port that sends may owe a BUSY. -/
theorem send (h : s.PortsSound) (r : Response) (restarts : Bool) : (s.send p r restarts).PortsSound := by
  obtain ⟨failures, length, window, closed, outcomes, plant, -⟩ := h p
  exact h.setPort ⟨failures, length, window, closed, outcomes, plant, fun _ => rfl⟩

/-- A request keeps the laws where what it carries out does: a BUSY is owed on an ANSWERING port alone (R147). -/
theorem take (h : s.PortsSound) {tag code : Nat} {gate : State → PortId → Option ResponseCode} {restarts : Bool}
    {f : State → Carried} (carry : ∀ u : State, gate u p = none → u.PortsSound → (f u).1.PortsSound) :
    (s.take p tag code gate restarts f).PortsSound := by
  have judged : (s.frameJudged p).PortsSound := h.setPort (h p)
  unfold State.take
  split
  · dsimp only
    split
    · rename_i answering
      obtain ⟨failures, length, window, closed, outcomes, plant, -⟩ := judged p
      exact judged.setPort ⟨failures, length, window, closed, outcomes, plant, fun _ => answering⟩
    · split
      · exact judged.send _ _
      · rename_i passes
        exact (carry _ passes judged).send _ _
  · exact h

theorem nextResponse (h : s.PortsSound) : (s.nextResponse p).PortsSound := by
  obtain ⟨failures, length, window, closed, outcomes, plant, -⟩ := h p
  rw [State.nextResponse_eq]
  exact h.setPort ⟨failures, length, window, closed, outcomes, plant, nofun⟩

/-! ### Supervision (R162 to R167) -/

/-- A port that has failed is LAPSED in a LONG window, or SHUT. -/
theorem fail (h : s.PortsSound) : (s.fail p).PortsSound := by
  have failed : (failedRecord s (s.port p)).Sound := by
    obtain ⟨failures, length, -, -, outcomes, plant, owed⟩ := h p
    unfold failedRecord
    split
    · rename_i few
      exact ⟨few, length, rfl, nofun, outcomes, plant, owed⟩
    · exact ⟨failures, length, rfl, nofun, outcomes, plant, owed⟩
  rw [State.fail_eq]
  refine State.PortsSound.told ?_ (.raise _ p (by decide))
  split
  · exact (h.setPort failed).told (.leaveLive _ p)
  · exact h.setPort failed

theorem helloTaken (h : s.PortsSound) : (s.helloTaken p).PortsSound := by
  obtain ⟨failures, length, -, -, outcomes, plant, owed⟩ := h p
  have opened : (s.setPort p { s.port p with state := .opening, window := some s.longWindow }).PortsSound :=
    h.setPort ⟨failures, length, rfl, nofun, outcomes, plant, owed⟩
  unfold State.helloTaken
  split
  case h_4 => exact opened.told (.leaveLive _ p)
  case h_5 => exact h.setPort ⟨failures, length, rfl, nofun, outcomes, plant, owed⟩
  all_goals exact opened

/-- The REFRESH window of a LIVE port has the length W, 2 to 60 s. -/
theorem enterLive (h : s.PortsSound) : (s.enterLive p).PortsSound := by
  obtain ⟨failures, length, -, -, outcomes, plant, owed⟩ := h p
  refine h.setPort ⟨failures, length, ?_, nofun, outcomes, plant, owed⟩
  simp only [windowFits, State.refreshWindow, Nat.mul_mod_left, Bool.and_eq_true]
  exact ⟨⟨⟨rfl, rfl⟩, decide_eq_true (by omega)⟩, decide_eq_true (by omega)⟩

theorem refreshTaken (h : s.PortsSound) : (s.refreshTaken p).PortsSound := by
  unfold State.refreshTaken
  split
  · exact h.enterLive
  · exact h.enterLive
  · split
    · split
      · exact h.fail
      · exact h.enterLive
    · exact h.enterLive
  · exact h
  · exact h

theorem setWindow (h : s.PortsSound) (seconds : Nat) :
    (s.modifyPort p fun x => { x with windowLen := clampNat seconds 2 60 }).PortsSound := by
  obtain ⟨failures, -, window, closed, outcomes, plant, owed⟩ := h p
  exact h.setPort ⟨failures, clampNat_bounds (by decide) _, window, closed, outcomes, plant, owed⟩

theorem acknowledged (h : s.PortsSound) (named : FlagSet) : (s.modifyPort p (·.acknowledged named)).PortsSound := by
  obtain ⟨failures, length, window, closed, outcomes, plant, owed⟩ := h p
  refine h.setPort ⟨?_, length, window, fun hc => ⟨?_, (closed hc).2⟩, outcomes, fun hp => ⟨?_, (plant hp).2⟩, owed⟩
  · dsimp only [Port.acknowledged]
    split
    · exact Nat.zero_le _
    · exact failures
  · dsimp only [Port.acknowledged] at hc ⊢
    split
    · rfl
    · exact (closed hc).1
  · dsimp only [Port.acknowledged]
    rw [BitVec.and_assoc, BitVec.and_comm (~~~named), ← BitVec.and_assoc, (plant hp).1]
    exact BitVec.zero_and

/-- Only a port that is not CLOSED takes a mask, and a PLANT port without CANDIDATE (R149, R173). -/
theorem setMask (h : s.PortsSound) (opened : s.gate p .open = none) (named : FlagSet) :
    (s.modifyPort p fun x => { x with mask := appliedMask (s.port p).profile named }).PortsSound := by
  obtain ⟨failures, length, window, -, outcomes, plant, owed⟩ := h p
  refine h.setPort ⟨failures, length, window, fun hc => ?_, outcomes, fun hp => ⟨(plant hp).1, ?_⟩, owed⟩
  · exact absurd opened (by simp [State.gate, show (s.port p).state = .closed from hc])
  · change (s.port p).profile = .plant at hp
    simp only [hp, appliedMask]
    rw [BitVec.and_assoc, show ~~~FlagSet.candidate &&& FlagSet.candidate = 0 by decide]
    exact BitVec.and_zero

theorem emptyOutcomes (h : s.PortsSound) : (s.modifyPort p fun x => { x with outcomes := [], overrun := false }).PortsSound := by
  obtain ⟨failures, length, window, closed, -, plant, owed⟩ := h p
  exact h.setPort ⟨failures, length, window, closed, Nat.zero_le _, plant, owed⟩

/-! ### Resets (R178, R179) -/

theorem atReset (profile : Profile) : (Port.atReset profile).Sound :=
  ⟨Nat.zero_le _, (by decide : 2 ≤ 10 ∧ 10 ≤ 60), rfl, fun _ => ⟨rfl, rfl⟩, Nat.zero_le _,
    fun _ => (by decide : (0 : FlagSet) &&& .candidate = 0 ∧ (0 : FlagSet) &&& .candidate = 0), nofun⟩

theorem startUp (s : State) (strap : PortId → Profile) : (s.startUp strap).PortsSound := fun q => by
  rw [show (s.startUp strap).port q = Port.atReset (strap q) from tabulate_get ..]
  exact atReset _

theorem networkReset (h : s.PortsSound) : s.networkReset.PortsSound := by
  refine h.told fun q => ?_
  rw [State.port_networkReset, BitVec.or_assoc]
  exact .raise _ (candidate_or (by decide) (by split <;> decide))

theorem heldInReset (h : s.PortsSound) : (s.eachPort (·.heldInReset)).PortsSound := fun q => by
  obtain ⟨failures, length, window, closed, outcomes, plant, -⟩ := h q
  rw [State.port_eachPort]
  exact ⟨failures, length, window, closed, outcomes, plant, nofun⟩

end

end State.PortsSound

end Sys2Proof.Machine
end

section
namespace Sys2Proof.Machine

/-! ## Events of the trunks and of the Station Table -/

namespace State.PortsSound

section
variable {s : State} (h : s.PortsSound)
include h

theorem await (n : Nat) : (s.await n).PortsSound := h

/-- The end of an exchange hands its result on, and may stop the trunk (R87 to R93, R100). -/
theorem exchangeEnd {u v : State} (t : TrunkId) (kind : ExchangeKind) (failed : Bool) (ports : ∀ p, u.port p = s.port p)
    (k : PortsTold u v) : (v.afterExchange t kind failed).PortsSound :=
  (h.of_ports ports).told (k.trans (.afterExchange v t kind failed))

theorem execReplyTimeout (t : TrunkId) : Gives State.PortsSound (execReplyTimeout t s) := by
  unfold Machine.execReplyTimeout
  split
  · split
    · dsimp only
      split
      · exact h.exchangeEnd t _ _ (by simp [State.clearExchange]) (.handMiss _ t _)
      · exact h
    · exact h
  · exact h

theorem execReplyClosed (t : TrunkId) : Gives State.PortsSound (execReplyClosed t s) := by
  unfold Machine.execReplyClosed
  split
  · split
    · dsimp only
      split
      · split
        · exact h.exchangeEnd t _ _ (by simp [State.clearExchange]) (.handReply _ t _ _)
        · exact h
      · exact h
    · exact h
  · exact h

theorem execPairExchangeEnd (t : TrunkId) : Gives State.PortsSound (execPairExchangeEnd t s) := by
  unfold Machine.execPairExchangeEnd
  split
  · split
    · split
      · exact h.exchangeEnd t _ _ (by simp [State.clearExchange]) (.tableResult _ _ _)
      · exact h
    · exact h
  · exact h

theorem execRollcallEnd (t : TrunkId) : Gives State.PortsSound (execRollcallEnd t s) := by
  unfold Machine.execRollcallEnd
  split
  · split
    · split
      · dsimp only
        split
        · exact h.exchangeEnd t _ _ (by simp [State.clearExchange]) (.refl _)
        · exact h.exchangeEnd t _ _ (by simp [State.clearExchange]) (.rollcallAnswers _ t _)
      · exact h
    · exact h
  · exact h

theorem execWithheldExchangeEnd (t : TrunkId) : Gives State.PortsSound (execWithheldExchangeEnd t s) := by
  unfold Machine.execWithheldExchangeEnd
  split
  · split
    · exact h.exchangeEnd t _ _ (by simp [State.clearExchange]) (.handMiss _ t _)
    · exact h
  · exact h

theorem execSlotStart (t : TrunkId) : Gives State.PortsSound (execSlotStart t s) := by
  unfold Machine.execSlotStart
  split
  · dsimp only
    split
    · exact (h.await _).told ((PortsTold.setTrunk _ t _).trans (.slotFrame _ t _ _))
    · exact (h.await _).told ((PortsTold.enterStopped _ t).trans (.setTrunk _ t _))
  · exact h

theorem execRequestSent (t : TrunkId) : Gives State.PortsSound (execRequestSent t s) := by
  unfold Machine.execRequestSent
  split
  · split
    · exact (h.await _).told (.setTrunk _ t _)
    · exact h
  · exact h

theorem execTrunkByteReceived (t : TrunkId) (b : Byte) (ok : Bool) :
    Gives State.PortsSound (execTrunkByteReceived t b ok s) := by
  unfold Machine.execTrunkByteReceived
  split
  · split
    · split
      · exact (h.await _).told (.setTrunk _ t _)
      · exact h
    · exact h
  · exact h

theorem execTxStuck (t : TrunkId) : Gives State.PortsSound (execTxStuck t s) := by
  unfold Machine.execTxStuck
  split
  · split
    · exact h.told ((PortsTold.setTrunk s t _).trans (.raiseAll _ (by decide)))
    all_goals exact h.told (.halt s t _ _)
  · exact h

theorem execEchoLost (t : TrunkId) : Gives State.PortsSound (execEchoLost t s) := by
  unfold Machine.execEchoLost
  split
  · exact h.told (.halt s t _ _)
  · exact h

theorem execLineHeldSet (t : TrunkId) : Gives State.PortsSound (execLineHeldSet t s) := by
  unfold Machine.execLineHeldSet
  split
  · exact h.told ((PortsTold.setTrunk s t _).trans (.raiseAll _ (by decide)))
  · exact h

theorem execLineHeldCleared (t : TrunkId) : Gives State.PortsSound (execLineHeldCleared t s) := by
  unfold Machine.execLineHeldCleared
  split
  · exact h.told ((PortsTold.setTrunk s t _).trans (.raiseAll _ (by decide)))
  · exact h

theorem execStaleAgeExpiry (l : Station) : Gives State.PortsSound (execStaleAgeExpiry l s) := by
  unfold Machine.execStaleAgeExpiry
  split <;> [split; skip] <;> exact h

theorem execHoldLimitExpiry (l : Station) : Gives State.PortsSound (execHoldLimitExpiry l s) := by
  unfold Machine.execHoldLimitExpiry
  split <;> [split; skip]
  case isTrue => exact (h.await _).told (.enterLost _ l)
  all_goals exact h

/-! ## The module's other timers, and the ports' own events -/

theorem execDispatchExpiry : Gives State.PortsSound (execDispatchExpiry s) := by
  unfold Machine.execDispatchExpiry
  split
  · exact (h.await _).told (.dispatchOnce _)
  · exact h

theorem execLimiterExpiry : Gives State.PortsSound (execLimiterExpiry s) := by
  unfold Machine.execLimiterExpiry
  split
  · dsimp only
    split
    · exact State.PortsSound.told (by exact h) (.evaluate _)
    all_goals exact h
  · exact h

theorem execSaveComplete : Gives State.PortsSound (execSaveComplete s) := by
  unfold Machine.execSaveComplete
  split
  · split
    · exact State.PortsSound.told (by exact h) (.raiseAll _ (by decide))
    · exact h
  · exact h

variable (p : PortId)

theorem execLongWindowExpiry : Gives State.PortsSound (execLongWindowExpiry p s) := by
  unfold Machine.execLongWindowExpiry
  split <;> [split; split; skip] <;> solve | exact (h.await _).fail | exact h

theorem execRefreshWindowExpiry : Gives State.PortsSound (execRefreshWindowExpiry p s) := by
  unfold Machine.execRefreshWindowExpiry
  split <;> [split; skip]
  case isTrue => exact (h.await _).fail
  all_goals exact h

theorem execResponseComplete : Gives State.PortsSound (execResponseComplete p s) := by
  unfold Machine.execResponseComplete
  split
  · exact h
  · split
    · refine State.PortsSound.nextResponse ?_
      split
      · exact (h.await _).networkReset
      · exact h.await _
    · exact h

theorem execPortByteReceived (b : Byte) : Gives State.PortsSound (execPortByteReceived p b s) := by
  unfold Machine.execPortByteReceived
  split
  · exact (h.await _).setPort (h p)
  · exact h

theorem execRequestDiscarded : Gives State.PortsSound (execRequestDiscarded p s) := by
  unfold Machine.execRequestDiscarded
  split
  · exact h.setPort (h p)
  · exact h

end

end State.PortsSound

/-! ## Every step -/

theorem exec_keeps_portsSound (i : Instr) (s : State) (h : s.PortsSound) : Gives State.PortsSound (exec i s) := by
  have told : ∀ {p tag code gate restarts} {f : State → Carried}, (∀ u, PortsTold u (f u).1) →
      (s.take p tag code gate restarts f).PortsSound := fun k => h.take fun u _ hu => hu.told (k u)
  have same : ∀ {p tag code gate restarts} {f : State → Carried}, (∀ u q, (f u).1.port q = u.port q) →
      (s.take p tag code gate restarts f).PortsSound := fun k => told fun u => .of_ports (k u)
  cases i with
  | fullReset p0 p1 p2 p3 => exact .startUp s _
  | requestDiscarded p => exact h.execRequestDiscarded p
  | responseComplete p => exact h.execResponseComplete p
  | hello p tag => exact h.take fun u _ hu => hu.helloTaken
  | refresh p tag => exact h.take fun u _ hu => hu.refreshTaken
  | setWindow p tag seconds => exact h.take fun u _ hu => hu.setWindow seconds
  | ack p tag flags => exact h.take fun u _ hu => hu.acknowledged _
  | setMask p tag flags => exact h.take fun u opened hu => hu.setMask opened _
  | setNotify p tag mode =>
    exact h.take fun u _ hu => by
      split
      · exact hu.setPort (hu p)
      · exact hu
  | readOutcomes p tag => exact h.take fun u _ hu => hu.emptyOutcomes
  | unknownRequest p tag code => exact same fun _ _ => rfl
  | status p tag => exact same fun _ _ => rfl
  | readDispatch p tag selector =>
    have record : ∀ (u : State) r q, (answerRecord u r).1.port q = u.port q := fun u r q => by cases r <;> rfl
    exact same fun u q => by
      split
      · exact record u _ q
      · exact record u _ q
      · rfl
  | readImage p tag first count step => exact same fun u q => by split <;> rfl
  | readStation p tag index => exact same fun u q => by split <;> rfl
  | readQueue p tag trunk => exact same fun u q => by split <;> rfl
  | readCandidates p tag => exact same fun _ _ => rfl
  | readParam p tag identifier => exact same fun u q => by split <;> rfl
  | fallbackClear p tag =>
    exact same fun u q => by
      split
      · dsimp only [answerOk]
        split <;> rfl
      · rfl
  | postOffer p tag mode f cmin cmax rank ramp discharge charge => exact same fun u q => by split <;> rfl
  | withdrawOffer p tag => exact same fun u q => by split <;> rfl
  | writeMap p tag index flags trunk address qc dpmin mark => exact told fun u => .carryWriteMap u _ _ _ _ _ _ _
  | writeSlot p tag trunk entry rule index length => exact told fun u => .carryWriteSlot u _ _ _ _ _
  | writeParam p tag identifier value => exact told fun u => .carryWriteParam u _ _
  | save p tag => exact same fun _ _ => rfl
  | saveComplete => exact h.execSaveComplete
  | trunkStart p tag trunk => exact told fun u => .onTrunk u (.carryStart u) trunk
  | trunkStop p tag trunk => exact told fun u => .onTrunk u (.carryStop u) trunk
  | trunkResume p tag trunk => exact told fun u => .onTrunk u (.carryResume u) trunk
  | restart p tag => exact same fun _ _ => rfl
  | override p tag index item value => exact told fun u => .carryOverride u p _ _ _
  | release p tag index => exact told fun u => .carryRelease u p _
  | cancel p tag index item => exact told fun u => .carryCancel u p _ _
  | admitCandidate p tag trunk address index twin qc => exact told fun u => .carryAdmit u _ _ _ _ _
  | reject p tag trunk address =>
    rw [exec_reject]
    exact told fun u => .onTrunk u (fun t => .of_ports fun q => by
      unfold State.carryReject
      split_ifs <;> [rfl; rfl; exact State.port_setRefused ..]) trunk
  | forget p tag trunk address =>
    rw [exec_forget]
    exact told fun u => .onTrunk u (fun t => .of_ports fun q => by
      unfold State.carryForget
      split_ifs <;> [rfl; rfl; exact State.port_setRefused ..]) trunk
  | longWindowExpiry p => exact h.execLongWindowExpiry p
  | refreshWindowExpiry p => exact h.execRefreshWindowExpiry p
  | dispatchExpiry => exact h.execDispatchExpiry
  | limiterExpiry => exact h.execLimiterExpiry
  | staleAgeExpiry l => exact h.execStaleAgeExpiry l
  | holdLimitExpiry l => exact h.execHoldLimitExpiry l
  | slotStart t => exact h.execSlotStart t
  | requestSent t => exact h.execRequestSent t
  | replyTimeout t => exact h.execReplyTimeout t
  | replyClosed t => exact h.execReplyClosed t
  | pairExchangeEnd t => exact h.execPairExchangeEnd t
  | rollcallEnd t => exact h.execRollcallEnd t
  | withheldExchangeEnd t => exact h.execWithheldExchangeEnd t
  | txStuck t => exact h.execTxStuck t
  | echoLost t => exact h.execEchoLost t
  | lineHeldSet t => exact h.execLineHeldSet t
  | lineHeldCleared t => exact h.execLineHeldCleared t
  | resetAsserted => exact State.PortsSound.heldInReset (by exact h)
  | portByteReceived p b => exact h.execPortByteReceived p b
  | trunkByteReceived t b ok => exact h.execTrunkByteReceived t b ok

theorem State.port_idle (s : State) (p : PortId) : s.idle.port p = s.port p := by
  unfold State.idle
  split <;> [split; skip; skip] <;> rfl

end Sys2Proof.Machine

open Sys2Proof.Machine in
/-- Settles O54, command by command: tellings of outcomes and flags keep the laws of every port, and each of the commands that
write a port keeps them for it. -/
theorem stepKeepsPortsSound : Obligations.StepKeepsPortsSound := by
  intro s t hs h
  cases hp : s.pending with
  | nil =>
    rw [step_idle hp] at h
    cases h
    exact hs.of_ports s.port_idle
  | cons c cs =>
    rw [step_front hp] at h
    exact (exec_keeps_portsSound c { s with pending := cs } hs).of_eq h

end

/-! # Proofs: the frames of requests

What a frame's payload spells, by the length its code calls for; then a frame's judgement and its way there and back. -/

section
namespace Sys2Proof.Machine

/-! ## Numbers in bytes (R181) -/

theorem toNat_byte {n : Nat} (h : n < 256) : (byte n).toNat = n := by
  simp [byte, Nat.mod_eq_of_lt h]

theorem byte_toNat (b : Byte) : byte b.toNat = b := by simp [byte]

theorem number2_bytes {n : Nat} (h : n < 65536) : number2 (byte (n / 256)) (byte n) = n := by
  simp only [number2, byte, BitVec.toNat_ofNat]
  omega

theorem be2_number2 (hi lo : Byte) : be2 (number2 hi lo) = [hi, lo] := by
  have high : number2 hi lo / 256 = hi.toNat := by unfold number2; omega
  have low : byte (number2 hi lo) = lo :=
    BitVec.eq_of_toNat_eq (by simp only [number2, byte, BitVec.toNat_ofNat]; omega)
  rw [be2, high, low, byte_toNat]

/-! ## Payloads (R183) -/

/-- A list whose length is not `n` is shorter than that, or begins with `n + 1` entries. -/
theorem forall_of_length_ne {P : List Byte → Prop} (n : Nat) (short : ∀ k < n, ∀ f : Fin k → Byte, P (List.ofFn f))
    (long : ∀ (f : Fin (n + 1) → Byte) (rest : List Byte), P (List.ofFn f ++ rest)) (l : List Byte) (h : l.length ≠ n) :
    P l := by
  rcases Nat.lt_or_gt_of_ne h with hlt | hgt
  · have := short l.length hlt l.get
    rwa [List.ofFn_get] at this
  · have := long (fun k => l[k.1]) (l.drop (n + 1))
    have first : List.ofFn (fun k : Fin (n + 1) => l[k.1]) = l.take (n + 1) :=
      List.ext_getElem (by simp; omega) (by simp only [List.getElem_ofFn, List.getElem_take, implies_true])
    rwa [first, List.take_append_drop] at this

section
variable {p : PortId} {tag code : Nat} {payload : List Byte} {i : Instr}

/-- A payload of the length that its code calls for spells the request with that payload in its fields. -/
theorem decodePayload_spells (h : requestLength code = some payload.length) :
    ∃ i, decodePayload p tag code payload = some i ∧ requestFields i = some (tag, code, payload)
      ∧ requestPort i = some p := by
  revert payload
  rw [List.forall_iff_forall_tuple]
  intro n f h
  rw [List.length_ofFn] at h
  unfold requestLength at h
  split at h <;> cases h <;> refine ⟨_, rfl, ?_, rfl⟩ <;>
    simp [requestFields, be2_number2, byte_toNat, List.ofFn_succ]

/-- A payload of another length spells nothing. -/
theorem decodePayload_eq_none {n : Nat} (h : requestLength code = some n) (hn : payload.length ≠ n) :
    decodePayload p tag code payload = none := by
  unfold requestLength at h
  split at h <;> cases h <;>
    refine forall_of_length_ne (P := fun l => decodePayload p tag _ l = none) _ (fun k hk f => ?_)
      (fun f rest => rfl) payload hn <;>
    interval_cases k <;> rfl

/-- The fields of a well-formed request of a known code spell it. -/
theorem decodePayload_of_fields (wf : i.wellFormed = true) (hp : requestPort i = some p)
    (hi : requestFields i = some (tag, code, payload)) (known : (requestLength code).isSome = true) :
    decodePayload p tag code payload = some i := by
  cases i <;> simp only [requestPort, requestFields, Option.some.injEq, Prod.mk.injEq, reduceCtorEq] at hp hi <;>
    obtain ⟨rfl, rfl, rfl⟩ := hi <;> subst hp <;>
    simp only [Instr.wellFormed, Bool.and_eq_true, decide_eq_true_eq] at wf
  case unknownRequest => simp_all
  all_goals
    refine Eq.trans (b := some _) rfl ?_
    simp [number2_bytes, toNat_byte, wf]

theorem exists_requestFields (hp : requestPort i = some p) :
    ∃ tag code payload, requestFields i = some (tag, code, payload) := by
  cases i <;> cases hp <;> exact ⟨_, _, _, rfl⟩

/-- A well-formed request fits a frame. -/
theorem requestFields_fit (wf : i.wellFormed = true) (hi : requestFields i = some (tag, code, payload)) :
    tag < 256 ∧ code < 256 ∧ payload.length ≤ 14 := by
  cases i <;> simp only [requestFields, Option.some.injEq, Prod.mk.injEq, reduceCtorEq] at hi <;>
    obtain ⟨rfl, rfl, rfl⟩ := hi <;> simp only [Instr.wellFormed, Bool.and_eq_true, decide_eq_true_eq] at wf <;>
    simp [wf, be2]

/-- The code of a request is known, or it is the unknown request of that code. -/
theorem eq_unknownRequest (hp : requestPort i = some p) (hi : requestFields i = some (tag, code, payload))
    (unknown : (requestLength code).isSome = false) : i = .unknownRequest p tag code := by
  cases i <;> simp only [requestPort, requestFields, Option.some.injEq, Prod.mk.injEq, reduceCtorEq] at hp hi <;>
    obtain ⟨rfl, rfl, rfl⟩ := hi <;> subst hp
  case unknownRequest => rfl
  all_goals cases unknown

end

/-! ## Frames (R146, R183) -/

/-- The frame that a length, a tag, a code and a payload make, with its sync bytes and its CRC-16. -/
def frameOf (length tag code : Byte) (payload : List Byte) : List Byte :=
  0x5A#8 :: 0xC3#8 :: length :: tag :: code :: payload ++ crc16Bytes (length :: tag :: code :: payload)

theorem length_crc16Bytes (bytes : List Byte) : (crc16Bytes bytes).length = 2 := rfl

theorem length_frameOf (length tag code : Byte) (payload : List Byte) :
    (frameOf length tag code payload).length = payload.length + 7 := by
  simp [frameOf, length_crc16Bytes]

theorem encodeRequest_eq {i : Instr} {tag code : Nat} {payload : List Byte}
    (hi : requestFields i = some (tag, code, payload)) :
    encodeRequest i = some (frameOf (byte (payload.length + 7)) (byte tag) (byte code) payload) := by
  rw [encodeRequest, hi]
  rfl

/-- The judgement of a frame of the right length hangs on its code and payload alone. -/
theorem judgeFrame_frameOf (p : PortId) {length : Byte} (tag code : Byte) (payload : List Byte)
    (h : length.toNat = (frameOf length tag code payload).length) :
    judgeFrame p (frameOf length tag code payload) =
      if (requestLength code.toNat).isSome then
        (decodePayload p tag.toNat code.toNat payload).getD (.requestDiscarded p)
      else .unknownRequest p tag.toNat code.toNat := by
  have two : (payload ++ crc16Bytes (length :: tag :: code :: payload)).length - 2 = payload.length := by
    simp [length_crc16Bytes]
  simp only [frameOf, List.cons_append] at h ⊢
  simp only [judgeFrame, two, List.take_left, List.drop_left, if_true]
  exact if_pos ⟨trivial, trivial, h, by simp [length_crc16Bytes]⟩

/-- A frame that is not discarded has its sync bytes, its length and its CRC-16 right. -/
theorem eq_frameOf_of_judgeFrame {p : PortId} {frame : List Byte} (h : judgeFrame p frame ≠ .requestDiscarded p) :
    ∃ length tag code payload, frame = frameOf length tag code payload ∧ length.toNat = frame.length := by
  unfold judgeFrame at h
  split at h
  next s0 s1 length tag code rest =>
    split at h
    next fits =>
      obtain ⟨rfl, rfl, hlength, -⟩ := fits
      dsimp only at h
      split at h
      next crc =>
        refine ⟨length, tag, code, rest.take (rest.length - 2), ?_, hlength⟩
        rw [frameOf, ← crc, List.cons_append, List.cons_append, List.cons_append, List.cons_append, List.cons_append,
          List.take_append_drop]
      · exact absurd rfl h
    · exact absurd rfl h
  · exact absurd rfl h

end Sys2Proof.Machine

open Sys2Proof Sys2Proof.Machine in
/-- Settles O2: the payload spells the request again, and the frame around it passes. -/
theorem requestFramesRoundTrip : Obligations.RequestFramesRoundTrip := by
  unfold Obligations.RequestFramesRoundTrip
  intro i p wf hp
  obtain ⟨tag, code, payload, fields⟩ := exists_requestFields hp
  obtain ⟨htag, hcode, hpayload⟩ := requestFields_fit wf fields
  have fits : (byte (payload.length + 7)).toNat
      = (frameOf (byte (payload.length + 7)) (byte tag) (byte code) payload).length := by
    rw [length_frameOf, toNat_byte (by omega)]
  refine ⟨_, encodeRequest_eq fields, by rw [length_frameOf]; omega, ?_⟩
  rw [judgeFrame_frameOf p _ _ payload fits, toNat_byte htag, toNat_byte hcode]
  split
  next known => rw [decodePayload_of_fields wf hp fields known, Option.getD_some]
  next unknown => exact (eq_unknownRequest hp fields (Bool.eq_false_iff.2 unknown)).symm

open Sys2Proof Sys2Proof.Machine in
/-- Settles O3: a frame that passes is one of its own length and CRC-16, and such a frame is judged by its payload alone. -/
theorem framesThatPass : Obligations.FramesThatPass := by
  unfold Obligations.FramesThatPass
  refine ⟨?_, fun p frame h => eq_frameOf_of_judgeFrame h⟩
  intro p length tag code payload frame (hframe : frame = frameOf length tag code payload) hlength
  subst hframe
  rw [judgeFrame_frameOf p tag code payload hlength]
  refine ⟨fun unknown => by rw [unknown]; rfl, fun n known => ?_⟩
  rw [known, Option.isSome_some, if_pos rfl]
  refine ⟨fun hn => ?_, fun hn => by rw [decodePayload_eq_none known hn]; rfl⟩
  obtain ⟨i, spelled, fields, port⟩ := decodePayload_spells (p := p) (tag := tag.toNat) (hn ▸ known)
  rw [spelled]
  exact ⟨fields, port⟩

end

/-! # Proofs: reception on a port -/

section
namespace Sys2Proof.Machine

/-! ## Frames under reception (R146) -/

section
variable (frames : List PortFrame) {f : PortFrame} (b : Byte) {start : Nat}

/-- A byte that begins in time extends the open frame. -/
theorem receiveByte_open (h : f.bytes.length < 64 ∧ start ≤ f.endAt + 30) :
    receiveByte (frames ++ [f]) b start = frames ++ [{ bytes := f.bytes ++ [b], endAt := start + 10 }] := by
  rw [receiveByte, List.getLast?_concat]
  simp only [(f.isOpen_iff start).2 h, if_true, List.dropLast_concat]

/-- A byte after a full frame, or after a gap, begins the next frame. -/
theorem receiveByte_ended (h : 64 ≤ f.bytes.length ∨ f.endAt + 30 < start) :
    receiveByte (frames ++ [f]) b start = frames ++ [f, { bytes := [b], endAt := start + 10 }] := by
  have ended : f.isOpen start = false := Bool.eq_false_iff.2 fun ho => by
    obtain ⟨short, near⟩ := (f.isOpen_iff start).1 ho
    omega
  rw [receiveByte, List.getLast?_concat]
  simp only [ended, Bool.false_eq_true, if_false, List.append_assoc, List.cons_append, List.nil_append]

end

theorem Port.lineFree_of_last {x : Port} {frames : List PortFrame} {f : PortFrame} (h : x.receiving = frames ++ [f]) :
    x.lineFree = f.endAt := by
  rw [Port.lineFree, h, List.getLast?_concat]

/-- A byte begins no earlier than the end of the byte before it, and joins the frames under reception. -/
theorem exec_portByteReceived {s : State} (p : PortId) (b : Byte) (on : s.powered = true) :
    exec (.portByteReceived p b) s = .next ((s.await (s.port p).lineFree).setPort p { s.port p with
      receiving := receiveByte (s.port p).receiving b (max s.clock (s.port p).lineFree) }) := by
  change execPortByteReceived p b s = _
  rw [execPortByteReceived, if_pos on]
  rfl

/-- The oldest frame leaves the receiver. -/
theorem exec_requestDiscarded {s : State} (p : PortId) (on : s.powered = true) :
    exec (.requestDiscarded p) s = .next (s.received p) := by
  change execRequestDiscarded p s = _
  rw [execRequestDiscarded, if_pos on]
  rfl

end Sys2Proof.Machine

open Sys2Proof Sys2Proof.Machine in
/-- Settles O4: the last frame under reception is open or has ended, or there is none. -/
theorem portReception : Obligations.PortReception := by
  unfold Obligations.PortReception
  intro p b s on
  rw [exec_portByteReceived p b on]
  refine ⟨fun frames f last => ?_, fun none => ?_, exec_requestDiscarded p on⟩
  · rw [Port.lineFree_of_last last, last]
    refine ⟨fun ⟨short, near⟩ => ?_, fun ended => ?_⟩
    · rw [receiveByte_open frames b ⟨short, by omega⟩]
      rfl
    · rw [receiveByte_ended frames b (by omega)]
      rfl
  · have free : (s.port p).lineFree = 0 := by rw [Port.lineFree, none]; rfl
    rw [free, none, Nat.max_zero, State.await, Nat.max_zero]
    rfl

end

/-! # Proofs: the answering cycle and the gate

Every request is taken in the same way (`Taken`); what differs is its gate, and what carrying it out does. No request moves the
clock. -/

section
namespace Sys2Proof.Machine

/-! ## Requests leave the clock alone -/

section
variable (s : State) (p : PortId)

@[simp] theorem State.leaveLive_clock : (s.leaveLive p).clock = s.clock := by
  rw [State.leaveLive_eq, ← State.releaseOwned_eq, (WorkFrame.releaseOwned _ p).clock, State.setOffer_clock]

@[simp] theorem State.fail_clock : (s.fail p).clock = s.clock := (s.fail_between p).clock

@[simp] theorem State.helloTaken_clock : (s.helloTaken p).clock = s.clock := by
  unfold State.helloTaken
  split <;> simp

@[simp] theorem State.refreshTaken_clock : (s.refreshTaken p).clock = s.clock := by
  unfold State.refreshTaken State.enterLive
  split
  case h_3 =>
    split
    · split <;> simp
    · simp
  all_goals simp

@[simp] theorem State.bindingChange_clock (l : Station) (m : MapPart) : (s.bindingChange l m).clock = s.clock :=
  (s.bindingChange_frame l m).clock

@[simp] theorem State.removeBoundCandidates_clock (m : MapPart) : (s.removeBoundCandidates m).clock = s.clock := by
  unfold State.removeBoundCandidates
  dsimp only
  split <;> rfl

theorem State.carryWriteMap_clock (index flags trunk address qc dpmin mark : Nat) :
    (s.carryWriteMap index flags trunk address qc dpmin mark).1.clock = s.clock := by
  unfold State.carryWriteMap
  split
  · dsimp only [State.writeMap]
    split_ifs <;> simp [answerOk, answerCode]
  · rfl

theorem State.carryAdmit_clock (trunk address index twin qc : Nat) :
    (s.carryAdmit trunk address index twin qc).1.clock = s.clock := by
  unfold State.carryAdmit
  split
  · dsimp only
    split_ifs <;> simp [answerOk, answerCode]
  · rfl

@[simp] theorem State.rejudge_clock : s.rejudge.clock = s.clock := (s.rejudge_loses.1).clock

theorem State.carryWriteParam_clock (identifier value : Nat) : (s.carryWriteParam identifier value).1.clock = s.clock := by
  unfold State.carryWriteParam
  split
  · dsimp only [answerOk, State.afterParam]
    split <;> simp [State.clampSetpoint]
  · rfl

theorem State.carryWriteSlot_clock (trunk entry rule index length : Nat) :
    (s.carryWriteSlot trunk entry rule index length).1.clock = s.clock := by
  unfold State.carryWriteSlot
  split
  · split <;> simp [answerOk, answerCode]
  · rfl

theorem State.carryOverride_clock (index item value : Nat) : (s.carryOverride p index item value).1.clock = s.clock := by
  unfold State.carryOverride
  split
  · rfl
  · split
    · rfl
    · split
      · rfl
      · split_ifs
        · rfl
        · rfl
        · dsimp only [answerOk]
          split
          · exact (WorkFrame.placeOverride s _ p _ _).clock
          · exact (WorkFrame.replaceOverride s _ p _ _ _).clock

theorem State.carryRelease_clock (index : Nat) : (s.carryRelease p index).1.clock = s.clock := by
  unfold State.carryRelease
  split
  · rfl
  · split
    · rfl
    · dsimp only
      split_ifs
      · rfl
      · rfl
      · exact (WorkFrame.offerIfRoom _ _ _ _ _ _).clock.trans (by simp)

theorem State.carryCancel_clock (index item : Nat) : (s.carryCancel p index item).1.clock = s.clock := by
  unfold State.carryCancel
  split
  · rfl
  · split
    · rfl
    · split
      · rfl
      · dsimp only
        split
        · split
          · rfl
          · exact (WorkFrame.dropEntry s _ _).clock
        · split <;> rfl

theorem onTrunk_clock (trunk : Nat) {rule : State → TrunkId → Carried} (h : ∀ t, (rule s t).1.clock = s.clock) :
    (onTrunk s trunk rule).1.clock = s.clock := by
  unfold onTrunk
  split
  · exact h _
  · rfl

theorem State.carryStart_clock (t : TrunkId) : (s.carryStart t).1.clock = s.clock := by
  unfold State.carryStart
  split
  · split <;> simp [answerOk, answerCode]
  all_goals rfl

theorem State.carryStop_clock (t : TrunkId) : (s.carryStop t).1.clock = s.clock := by
  unfold State.carryStop
  split
  · split <;> simp [answerOk, State.enterStopped, State.raiseAll]
  · simp [answerOk, State.enterStopped, State.raiseAll]
  all_goals rfl

theorem State.carryResume_clock (t : TrunkId) : (s.carryResume t).1.clock = s.clock := by
  unfold State.carryResume
  split
  · split <;> simp [answerOk, answerCode]
  all_goals rfl

end

/-! ## How every request is taken (R147, R149, R150) -/

/-- The command is a request that a port takes under a tag and a code: a gate judges it and its rule carries it out, which
leaves the clock; and a row of R149's table is what its gate goes by. -/
def Taken (i : Instr) (p : PortId) (tag code : Nat) : Prop :=
  ∃ gate restarts carryOut, (∀ s, exec i s = .next (s.take p tag code gate restarts carryOut))
    ∧ (∀ u : State, (carryOut u).1.clock = u.clock)
    ∧ ∀ profile live write, requestRow i = some (profile, live, write) → gate = fun s p => s.gate p ⟨profile, live, write⟩

/-- Every request is taken so. -/
theorem taken_of_fields {i : Instr} {p : PortId} {tag code : Nat} {payload : List Byte}
    (hi : requestFields i = some (tag, code, payload)) (hp : requestPort i = some p) : Taken i p tag code := by
  cases i <;> cases hi <;> cases hp <;>
    refine ⟨_, _, _, fun s => rfl, fun u => ?_, fun _ _ _ row => by cases row <;> rfl⟩
  case hello => exact u.helloTaken_clock p
  case refresh => exact u.refreshTaken_clock p
  case ack => simp [answerOk]
  case setMask => simp [answerOk]
  case setWindow => simp [answerOk]
  case readOutcomes => simp [answerOk]
  case setNotify => split <;> simp [answerOk, answerCode]
  case readDispatch =>
    dsimp only [answerRecord]
    split
    · split <;> rfl
    · split <;> rfl
    · rfl
  case readImage => dsimp only; split <;> rfl
  case readStation => split <;> rfl
  case readQueue => split <;> rfl
  case readParam => split <;> rfl
  case fallbackClear =>
    split
    · simp only [answerOk]
      split <;> rfl
    · rfl
  case postOffer => split <;> simp [answerOk, answerCode]
  case withdrawOffer => split <;> simp [answerOk, answerCode]
  case writeMap => exact u.carryWriteMap_clock _ _ _ _ _ _ _
  case writeSlot => exact u.carryWriteSlot_clock _ _ _ _ _
  case writeParam => exact u.carryWriteParam_clock _ _
  case trunkStart => exact onTrunk_clock u _ u.carryStart_clock
  case trunkStop => exact onTrunk_clock u _ u.carryStop_clock
  case trunkResume => exact onTrunk_clock u _ u.carryResume_clock
  case override => exact u.carryOverride_clock p _ _ _
  case release => exact u.carryRelease_clock p _
  case cancel => exact u.carryCancel_clock p _ _
  case admitCandidate => exact u.carryAdmit_clock _ _ _ _ _
  case reject =>
    split
    · split_ifs <;> simp [answerOk, answerCode, State.removeCandidate]
    · rfl
  case forget =>
    split
    · split_ifs <;> simp [answerOk, answerCode]
    · rfl
  all_goals rfl

/-! ## FREE and ANSWERING (R147) -/

section
variable {s : State} {p : PortId} (tag code : Nat) (gate : State → PortId → Option ResponseCode) (restarts : Bool)
  (carryOut : State → Carried)

/-- On an ANSWERING port a request is owed a BUSY. -/
theorem State.take_answering (on : s.powered = true) (h : (s.port p).sending ≠ none) :
    s.take p tag code gate restarts carryOut = s.setPort p { s.port p with
      receiving := (s.port p).receiving.tail, owedBusy := some (tag, code) } := by
  have answering : ((s.frameJudged p).port p).sending.isSome = true := by
    simpa [State.frameJudged] using Option.isSome_iff_ne_none.2 h
  simp only [State.take, on, if_true, answering]
  simp [State.frameJudged]

/-- On a FREE port a request's response begins, under its tag and code. -/
theorem State.take_sends (free : s.Free p) (clock : ∀ u : State, (carryOut u).1.clock = u.clock) :
    ∃ t c payload ends, s.take p tag code gate restarts carryOut
        = State.send t p { tag := tag, request := code, code := c, payload := payload } ends ∧ t.clock = s.clock := by
  obtain ⟨on, idle⟩ := free
  have still : ((s.frameJudged p).port p).sending = none := by simpa [State.frameJudged] using idle
  simp only [State.take, on, if_true, still, Option.isSome_none, Bool.false_eq_true, if_false]
  split
  · exact ⟨_, _, _, _, rfl, by simp [State.frameJudged]⟩
  · exact ⟨_, _, _, _, rfl, by simp [clock, State.frameJudged]⟩

/-- What the gate turns away on a FREE port is answered with the gate's code, and not carried out. -/
theorem State.take_refused {c : ResponseCode} (free : s.Free p) (g : gate (s.received p) p = some c) :
    s.take p tag code gate restarts carryOut = (s.received p).answers p (codeResponse tag code c) := by
  obtain ⟨on, idle⟩ := free
  have still : ((s.received p).port p).sending = none := by simpa using idle
  have taken : s.frameJudged p = s.received p := rfl
  simp only [State.take, taken, on, still, g, if_true, Option.isSome_none, Bool.false_eq_true, if_false]
  rfl

end

/-- The end of a response that no restart follows. -/
theorem exec_responseComplete {s : State} {p : PortId} {x : Sending} (on : s.powered = true)
    (hx : (s.port p).sending = some x) (plain : x.restarts = false) :
    exec (.responseComplete p) s = .next ((s.await x.endAt).nextResponse p) := by
  change execResponseComplete p s = _
  simp only [execResponseComplete, hx, on, plain, if_true, Bool.false_eq_true, if_false]

/-! ## The gate's steps (R150) -/

section
variable {s : State} {p : PortId} {profile : Option Profile} {live write : Bool}

theorem State.gate_closed (h : (s.port p).state = .closed) : s.gate p ⟨profile, live, write⟩ = some .notLive := by
  simp [State.gate, h]

theorem State.gate_shut (h : (s.port p).state = .shut) : s.gate p ⟨profile, live, write⟩ = some .shut := by
  simp [State.gate, h]

theorem State.Opened.not_closed (h : s.Opened p) : (s.port p).state ≠ .closed ∧ (s.port p).state ≠ .shut := by
  obtain ⟨-, h | h | h⟩ := h <;> simp [h]

theorem State.gate_denied (h : s.Opened p) {q : Profile} (hq : profile = some q) (other : (s.port p).profile ≠ q) :
    s.gate p ⟨profile, live, write⟩ = some .denied := by
  simp [State.gate, h.not_closed, hq, Ne.symm other]

/-- Past the profile, an opened port's gate judges LIVE, FALLBACK and a SAVE in progress, in this order. -/
theorem State.gate_own (h : s.Opened p) (own : profile = none ∨ profile = some (s.port p).profile) :
    s.gate p ⟨profile, live, write⟩ =
      if live ∧ (s.port p).state ≠ .live then some .notLive
      else if write ∧ s.mode = .fallback then some .fallback
      else if write ∧ s.saving.isSome then some .busy
      else none := by
  rcases own with own | own <;> simp [State.gate, h.not_closed, own]

end

end Sys2Proof.Machine

open Sys2Proof Sys2Proof.Machine in
/-- Settles O5: a request is taken on a FREE or an ANSWERING port, and at a response's end a BUSY is owed or none is. -/
theorem answeringCycle : Obligations.AnsweringCycle := by
  unfold Obligations.AnsweringCycle
  refine ⟨fun i p tag code payload s hi hp on => ?_, fun p x s on hx plain => ?_⟩
  · obtain ⟨gate, restarts, carryOut, taken, clock, -⟩ := taken_of_fields hi hp
    rw [taken]
    refine ⟨fun idle => ?_, fun busy => by rw [State.take_answering tag code gate restarts carryOut on busy]⟩
    obtain ⟨t, c, answer, ends, sends, hclock⟩ := State.take_sends tag code gate restarts carryOut ⟨on, idle⟩ clock
    rw [sends, ← hclock]
    exact ⟨_, _, rfl, by rw [State.send, State.modifyPort_eq, State.port_setPort, if_pos rfl], rfl, rfl, rfl⟩
  · rw [exec_responseComplete on hx plain, State.nextResponse_eq, State.port_await]
    refine ⟨fun tag code owed => by rw [owed]; rfl, fun none => ?_⟩
    rw [none, Option.map_none, ← none]
    rfl

open Sys2Proof Sys2Proof.Machine in
/-- Settles O6: what the gate answers, step by step, and that a request it turns away is not carried out. -/
theorem gateRefusesInOrder : Obligations.GateRefusesInOrder := by
  unfold Obligations.GateRefusesInOrder
  refine ⟨fun i p tag code payload profile live write s row hi hp free => ?_, fun p tag code s free => ?_⟩
  · obtain ⟨gate, restarts, carryOut, taken, -, byRow⟩ := taken_of_fields hi hp
    have byRow := byRow _ _ _ row
    have refused : ∀ {c}, s.gate p ⟨profile, live, write⟩ = some c →
        exec i s = .next ((s.received p).answers p (codeResponse tag code c)) := fun {c} g => by
      subst byRow
      rw [taken, State.take_refused tag code _ restarts carryOut free ((s.gate_received p _).trans g)]
    refine ⟨fun h => refused (State.gate_closed h), fun h => refused (State.gate_shut h), fun opened =>
      ⟨fun q hq other => refused (State.gate_denied opened hq other), fun own => ?_⟩⟩
    have judged := State.gate_own (live := live) (write := write) opened own
    refine ⟨fun needs away => refused (judged.trans (if_pos ⟨needs, away⟩)), fun there isWrite => ?_⟩
    rw [if_neg fun ⟨needs, away⟩ => away (there needs)] at judged
    refine ⟨fun fallback => refused (judged.trans (if_pos ⟨isWrite, fallback⟩)), fun calm saving => refused ?_⟩
    rw [judged, if_neg fun ⟨_, fallback⟩ => calm fallback, if_pos ⟨isWrite, Option.isSome_iff_ne_none.2 saving⟩]
  · have refused : ∀ {c}, gateUnknown (s.received p) p = some c →
        exec (.unknownRequest p tag code) s = .next ((s.received p).answers p (codeResponse tag code c)) := fun g =>
      congrArg _ (State.take_refused tag code gateUnknown false _ free g)
    refine ⟨fun h => refused ?_, fun h => refused ?_, fun ⟨_, h⟩ => refused ?_⟩ <;>
      rw [gateUnknown, State.received_port_state]
    · rw [h]
    · rw [h]
    · rcases h with h | h | h <;> rw [h]

end

/-! # Proofs: READ_IMAGE -/

section
namespace Sys2Proof.Machine

/-- The entries of a stride are first, first + step and so on, up to the count and not above L119. -/
theorem stride_getElem? (count first step k : Nat) :
    ((stride count first step)[k]?).map (·.val) =
      if k < count ∧ first + k * step < 120 then some (first + k * step) else none := by
  induction count generalizing first k with
  | zero => simp [stride]
  | succ count ih =>
    unfold stride stationOf
    by_cases inside : first < 120
    · rw [dif_pos inside]
      cases k with
      | zero => simp [inside]
      | succ k =>
        have next : first + step + k * step = first + (k + 1) * step := by rw [Nat.add_mul]; omega
        simpa [next] using ih (first + step) k
    · rw [dif_neg inside]
      rw [if_neg fun ⟨_, near⟩ => inside (Nat.lt_of_le_of_lt (Nat.le_add_right _ _) near)]
      rfl

end Sys2Proof.Machine

open Sys2Proof Sys2Proof.Machine in
/-- Settles O9: the refusal, and the stride of the clamped count and step. -/
theorem readImageReturnsAStride : Obligations.ReadImageReturnsAStride := by
  unfold Obligations.ReadImageReturnsAStride
  intro p tag first count step s opened
  have hcount : clampNat count 1 8 = max 1 (min count 8) := clampNat_eq_max_min (by omega) count
  have hstep : clampNat step 1 16 = max 1 (min step 16) := clampNat_eq_max_min (by omega) step
  refine ⟨fun out => exec_read_refused opened rfl (if_neg (Nat.not_lt.2 out)), fun inside =>
    ⟨stride (max 1 (min count 8)) first (max 1 (min step 16)), stride_getElem? _ _ _, ?_⟩⟩
  refine exec_read opened rfl ?_
  simp only [inside, if_true, hcount, hstep, State.map_received, State.image_received]

end
/-! # Proofs: the outcome list -/

section
namespace Sys2Proof.Machine

theorem markByte_eq (b : Bool) : markByte b = byte b.toNat := by cases b <;> rfl

theorem OutcomeEntry.bytes_eq (o : OutcomeEntry) :
    o.bytes = [byte o.index.val, byte o.item.code] ++ be2 (o.value.getD 65535) ++ [byte o.outcome.code]
      ++ be4 (msOfTicks o.at_) := by
  rw [OutcomeEntry.bytes, opt2_eq]

theorem exec_readOutcomes {s : State} {p : PortId} (tag : Nat) (opened : s.Opened p) :
    exec (.readOutcomes p tag) s =
      .next (((s.received p).setPort p { (s.received p).port p with outcomes := [], overrun := false }).answers p
        (okResponse tag 0x15 ([markByte (s.port p).overrun, byte (s.port p).outcomes.length]
          ++ (s.port p).outcomes.flatMap (·.bytes)))) := by
  refine congrArg _ ((State.request_open s p tag 0x15 _ opened).trans ?_)
  simp only [State.modifyPort_eq, answerOk, State.port_received, if_true]
  rfl

/-! ## An outcome added (R158, R159) -/

section
variable {x : Port} (o : OutcomeEntry)

theorem Port.addOutcome_of_room (h : x.outcomes.length < 8) :
    (x.addOutcome o).outcomes = x.outcomes ++ [o] ∧ (x.addOutcome o).overrun = x.overrun := by
  simp [Port.addOutcome, Nat.not_le.2 h]

theorem Port.addOutcome_of_full (h : x.outcomes.length = 8) :
    (x.addOutcome o).outcomes = x.outcomes.tail ++ [o] ∧ (x.addOutcome o).overrun = true := by
  simp [Port.addOutcome, h]

theorem Port.flags_addOutcome_of_each (h : x.notify = .each) : (x.addOutcome o).flags = x.flags ||| .cmd := if_pos h

theorem Port.flags_addOutcome_of_drained (h : x.notify = .drained) : (x.addOutcome o).flags = x.flags :=
  if_neg (by simp [h])

end

end Sys2Proof.Machine

open Sys2Proof Sys2Proof.Machine in
/-- Settles O10: the read, and an addition to a list with room and to a full one. -/
theorem outcomeListKeepsEight : Obligations.OutcomeListKeepsEight := by
  unfold Obligations.OutcomeListKeepsEight
  refine ⟨fun p tag s opened => ?_, fun x o => ⟨Port.addOutcome_of_room o, Port.addOutcome_of_full o, fun each => ?_,
    Port.flags_addOutcome_of_drained o, rfl⟩⟩
  · simpa only [markByte_eq, OutcomeEntry.bytes_eq] using exec_readOutcomes tag opened
  · rw [Port.flags_addOutcome_of_each o each]
    exact hasFlag_or _ _

end
/-! # Proofs: flags, masks and windows -/

section
namespace Sys2Proof.Machine

/-! ## Sets of flags (R172, R181) -/

theorem flagSetOf_getLsbD (n : Nat) {i : Nat} (hi : i < 9) : (flagSetOf n).getLsbD i = n.testBit i := by
  simp only [flagSetOf, BitVec.getLsbD_ofNat, hi, decide_true, Bool.true_and]

theorem flagSetOf_watchdog (n : Nat) : flagSetOf n &&& FlagSet.watchdog ≠ 0 ↔ n.testBit 5 = true := by
  rw [show FlagSet.watchdog = BitVec.twoPow 9 5 from rfl, BitVec.and_twoPow, flagSetOf_getLsbD n (by omega)]
  cases n.testBit 5 <;> decide

theorem candidate_getLsbD {i : Nat} (hi : i < 9) : FlagSet.candidate.getLsbD i = (i == 4) := by
  interval_cases i <;> rfl

/-- Two sets meet in a flag. -/
theorem and_ne_zero_iff (a b : FlagSet) : a &&& b ≠ 0 ↔ ∃ i, i < 9 ∧ a.getLsbD i = true ∧ b.getLsbD i = true := by
  rw [not_iff_comm]
  refine ⟨fun apart => BitVec.eq_of_getLsbD_eq fun i hi => ?_, fun h ⟨i, _, ha, hb⟩ => ?_⟩
  · refine (Bool.eq_false_iff.2 fun meets => ?_).trans BitVec.getLsbD_zero.symm
    rw [BitVec.getLsbD_and, Bool.and_eq_true] at meets
    exact apart ⟨i, hi, meets⟩
  · have meets : (a &&& b).getLsbD i = true := by rw [BitVec.getLsbD_and, ha, hb]; rfl
    rw [h] at meets
    simp at meets

theorem appliedMask_getLsbD (profile : Profile) (n : Nat) {i : Nat} (hi : i < 9) :
    (appliedMask profile (flagSetOf n)).getLsbD i = (n.testBit i && (i != 4 || profile = .operator)) := by
  cases profile with
  | plant =>
    simp only [appliedMask, BitVec.getLsbD_and, BitVec.getLsbD_not, flagSetOf_getLsbD n hi, candidate_getLsbD hi, hi,
      decide_true, Bool.true_and, reduceCtorEq, decide_false, Bool.or_false, bne]
  | operator => simp only [appliedMask, flagSetOf_getLsbD n hi, decide_true, Bool.or_true, Bool.and_true]

/-- ACK's effect on a port, with the WATCHDOG bit of the field as sent. -/
theorem Port.acknowledged_flagSetOf (x : Port) (n : Nat) :
    x.acknowledged (flagSetOf n) =
      { x with
        flags := x.flags &&& ~~~flagSetOf n
        failures := if n.testBit 5 = true ∧ x.state = .live then 0 else x.failures } := by
  simp only [Port.acknowledged, flagSetOf_watchdog]

theorem NotifyMode.ofCode_of_le {n : Nat} (h : 2 ≤ n) : NotifyMode.ofCode n = none := by
  unfold NotifyMode.ofCode
  split <;> first | rfl | omega

/-! ## The requests (R159, R165, R173, R174) -/

/-- A request that writes its port's record alone, and echoes. -/
theorem exec_writesPort {i : Instr} {s : State} {p : PortId} {tag code : Nat} {f : State → Carried} {x : Port}
    {payload : List Byte} (opened : s.Opened p) (hi : exec i s = .next (s.request p tag code .open f))
    (hf : f (s.received p) = answerOk ((s.received p).setPort p x) payload) :
    exec i s = .next (((s.received p).setPort p x).answers p (okResponse tag code payload)) := by
  rw [hi, State.request_open s p tag code f opened, hf]
  rfl

end Sys2Proof.Machine

open Sys2Proof Sys2Proof.Machine in
/-- Settles O16, request by request. -/
theorem flagsMasksAndWindows : Obligations.FlagsMasksAndWindows := by
  unfold Obligations.FlagsMasksAndWindows
  refine ⟨fun p tag n s opened => ⟨(s.port p).flags &&& ~~~flagSetOf n, fun i hi => ?_, ?_⟩,
    fun p tag n s opened => ⟨?_, ⟨appliedMask (s.port p).profile (flagSetOf n), fun i hi => appliedMask_getLsbD _ n hi, ?_⟩,
      exec_writesPort opened rfl rfl, exec_writesPort opened rfl rfl, fun out => ?_⟩, fun s p => ?_⟩
  · simp only [BitVec.getLsbD_and, BitVec.getLsbD_not, flagSetOf_getLsbD n hi, hi, decide_true, Bool.true_and]
  · refine exec_writesPort opened rfl ?_
    simp only [State.modifyPort_eq, Port.acknowledged_flagSetOf, State.port_setPort, State.port_received, if_true]
    rfl
  · rw [← clampNat_eq_max_min (by omega)]
    exact exec_writesPort opened rfl rfl
  · refine exec_writesPort opened rfl ?_
    rw [State.received_port_profile]
    rfl
  · refine exec_read_refused opened rfl ?_
    simp only [NotifyMode.ofCode_of_le out]
  · rw [State.attn, Bool.and_eq_true, bne_iff_ne, and_ne_zero_iff]

end

/-! # Proofs: the copy and SAVE -/

section
namespace Sys2Proof.Machine

/-! ## The two commands of a save (R176) -/

/-- SAVE where the gate of the four writes lets it pass. -/
theorem exec_save {s : State} {p : PortId} (tag : Nat) (h : s.Configures p) :
    exec (.save p tag) s =
      .next (({ s.received p with
        saving := some { captured := s.work, takenAt := s.clock }
        copyWhole := false } : State).answers p (okResponse tag 0x33 [])) :=
  congrArg _ (State.request_fourWrites s p tag 0x33 _ h)

/-- SAVE_COMPLETE where a save is in progress: the captured settings are written as the copy, and SAVE is raised. -/
theorem exec_saveComplete {s : State} {x : Saving} (on : s.powered = true) (h : s.saving = some x) :
    exec .saveComplete s =
      .next (({ s.writeCopy x.captured with saving := none, configDefaulted := false } : State).flagged .save) := by
  rw [← State.raiseAll_eq_flagged]
  change execSaveComplete s = _
  simp only [execSaveComplete, h, on, if_true]

end Sys2Proof.Machine

open Sys2Proof Sys2Proof.Machine in
/-- Settles O37: the two commands in turn, and the judgement on the copy. -/
theorem saveCapturesAndCompletes : Obligations.SaveCapturesAndCompletes := by
  unfold Obligations.SaveCapturesAndCompletes
  exact ⟨fun p tag s configures => exec_save tag configures,
    fun s x on saving => ⟨exec_saveComplete on saving, State.copyValid_writeCopy s x.captured⟩, State.copyValid_iff⟩

end

/-! # Proofs: the state after reset -/

section
namespace Sys2Proof.Machine

/-- The straps that assumption 4 gives the state after reset. -/
def resetStrap : PortId → Profile := strapOf .plant .plant .plant .operator

/-- The state after reset is one that FULL_RESET leaves as it is: its copy is invalid, so the defaults are taken up again, and
they enable no entry (R177, R178). -/
theorem State.startUp_reset : State.reset.startUp resetStrap = State.reset := by
  have images : (tabulate 120 fun l => Image.atReset (Settings.default.maps.get l).enabled) = State.reset.images :=
    images_ext fun l => by
      have disabled : (Settings.default.maps.get l).enabled = false := congrArg MapPart.enabled (replicate_get 120 _ l)
      rw [tabulate_get, disabled]
      exact (replicate_get 120 _ l).symm
  have ports : (tabulate 4 fun p => Port.atReset (resetStrap p)) = State.reset.ports := rfl
  calc
    State.reset.startUp resetStrap = { State.reset with
      images := tabulate 120 fun l => Image.atReset (Settings.default.maps.get l).enabled
      ports := tabulate 4 fun p => Port.atReset (resetStrap p) } := rfl
    _ = State.reset := by rw [images, ports]

/-- The defaults are the working settings and the copy, and S is their start value (R31, R177). -/
theorem State.settingsSound_reset : State.reset.SettingsSound :=
  ⟨Settings.default_sound, Settings.default_sound, nofun, Settings.default_sound.1.startSetpoint⟩

end Sys2Proof.Machine

open Sys2Proof.Machine in
/-- Settles O60: the state after reset is one that start-up gives, and start-up meets every law. -/
theorem resetIsSound : Obligations.ResetIsSound := by
  unfold Obligations.ResetIsSound
  have settings : State.reset.SettingsSound := State.settingsSound_reset
  have lines := linesWhole_startUp settings resetStrap
  have tables := State.tablesSound_startUp State.reset resetStrap
  have ports := State.PortsSound.startUp State.reset resetStrap
  have admission := State.AdmissionSound.startUp State.reset resetStrap
  rw [State.startUp_reset] at lines tables ports admission
  obtain ⟨queues, trunks⟩ := (linesWhole_iff rfl).1 lines
  obtain ⟨images, owners⟩ := State.reset.tablesSound_iff.1 tables
  exact ⟨ports, settings, queues, trunks, admission, images, owners, .of_reset rfl⟩

end
